-- ==== Sys2Proof/Word.lean ====
section
/-! DEFINITION. The words of the block: bytes, 16-bit operands, ControlMessage words, and the ten-byte frame (spec R55, R56, R58). -/

namespace Sys2Proof

/-- A byte (R30: "A byte is 8 bits"). -/
abbrev Byte := BitVec 8

/-- A 16-bit operand, parameter or checksum. -/
abbrev Word := BitVec 16

/-- A ControlMessage word at the producer port and in the queue (R58). -/
abbrev MsgWord := BitVec 19

/-- The ten bytes of a frame in transmission order, named as the table of R56 names them.
`ckMsb` and `ckLsb` are the checksum's bytes 7 and 8. -/
structure Frame where
  start   : Byte
  version : Byte
  len     : Byte
  opcode  : Byte
  fb      : Byte
  msb     : Byte
  lsb     : Byte
  ckMsb   : Byte
  ckLsb   : Byte
  stop    : Byte
deriving DecidableEq, Repr, Inhabited

end Sys2Proof
end

