-- ==== Sys2Proof/Config.lean ====
section
/-! DEFINITION. The configuration record CFG of R5, the illustrative configuration CFG_EX of R7, and the one free value of the model. -/

namespace Sys2Proof

/-- `CFG` (R5): constant for the life of an instance, written by no operation. Every field but `qCap` is
OPEN in the spec; the bounds are those of `Config.wellFormed` (R6). -/
structure Config where
  /-- `Q_CAP`, FIXED 10: capacity of the Command Bus in messages. -/
  qCap         : Nat
  /-- `N_TRACKS`, 0 to 65535: size of the installed track library. -/
  nTracks      : Nat
  /-- `VOL_DEFAULT`: value of `VOL` after reset. -/
  volDefault   : Byte
  /-- `INIT_SOURCE`, 1 to 5: operand of initialization step 0. -/
  initSource   : Byte
  /-- `WELCOME_TRACK`: operand of initialization step 2. -/
  welcomeTrack : Word
  /-- `PACE_TICKS`: the minimum pacing delay in ticks. -/
  paceTicks    : Nat
  /-- `SRC_SLEEP`, 1 to 5: the sleep-source constant of SLEEP. -/
  srcSleep     : Byte
  /-- `SRC_CARD`, 1 to 5: the card-source constant of WAKE. -/
  srcCard      : Byte
  /-- `VOL_ADJ_BASE`, 0 to 224: the base adjust constant of VOLUME_ADJUST. -/
  volAdjBase   : Byte
  /-- `VOL_ADJ_MSB`: parameter-MSB of the VOLUME_ADJUST frame. -/
  volAdjMsb    : Byte
deriving DecidableEq, Repr

/-- `CFG_EX` (R7): illustrative, of no authority; the configuration of `State.reset`
(DESIGN CHOICE, unsafe for claims about that one state, log 4). -/
def Config.cfgEx : Config where
  qCap := 10
  nTracks := 10
  volDefault := 20
  initSource := 2
  welcomeTrack := 1
  paceTicks := 3
  srcSleep := 4
  srcCard := 2
  volAdjBase := 0
  volAdjMsb := 0

/-- FREE VALUE: what FRAME_REG holds after the n-th Reset step of a run (R170: "unspecified"). It has no
body, so nothing can be proved of it (log 6, safe). -/
opaque Config.freeFrame : Nat → Frame

end Sys2Proof
end

