-- ==== Sys2Proof/Machine/Operands.lean ====
section
/-! DEFINITION. The operand forms of the catalog: the seven parameter forms of R62, the byte split of R81 (g), and the range checks of R6, R59, R85 and R88. -/

namespace Sys2Proof.Machine

/-- `v[15:8]`. -/
def hiByte (v : Word) : Byte := v.extractLsb' 8 8

/-- `v[7:0]`. -/
def loByte (v : Word) : Byte := v.extractLsb' 0 8

/-- `{hi, lo}`: big-endian concatenation (R47). -/
def joinBytes (hi lo : Byte) : Word := hi ++ lo

/-- The two parameter bytes of a frame, bytes 5 and 6 (R62). -/
structure Param where
  msb : Byte
  lsb : Byte
deriving DecidableEq, Repr

/-- Form ZERO: "a constant parameter", taken as zero by the spec. -/
def paramZero : Param := ⟨0x00, 0x00⟩

/-- Form P16: "split big-endian into MSB/LSB". -/
def paramP16 (p : Word) : Param := ⟨hiByte p, loByte p⟩

/-- Form B8: "parameter-LSB = V, parameter-MSB = 0". -/
def paramB8 (v : Byte) : Param := ⟨0x00, v⟩

/-- Form PAIR: "a direct two-byte pair". -/
def paramPair (folder track : Byte) : Param := ⟨folder, track⟩

/-- The 16-bit value `q` of form PACK; bits shifted past bit 15 are lost. -/
def packFolder (folder : Byte) (track : Word) : Word :=
  ((folder.setWidth 16) <<< 12) ||| (track &&& 0x0FFF)

/-- Form PACK: `q` split big-endian. -/
def paramPack (folder : Byte) (track : Word) : Param := paramP16 (packFolder folder track)

/-- Form ADJ: `VOL_ADJ_MSB`, `VOL_ADJ_BASE + g`; the sum does not wrap for a well-formed configuration and
`g <= 31`. -/
def paramAdj (c : Config) (g : Byte) : Param := ⟨c.volAdjMsb, c.volAdjBase + g⟩

/-- Form RAW: the Frame Codec's own inputs. -/
def paramRaw (msb lsb : Byte) : Param := ⟨msb, lsb⟩

/-- The validation of SELECT_SOURCE (R85): `1 <= s <= 5`, unsigned. -/
def sourceInRange (src : Byte) : Bool := decide (1 ≤ src.toNat) && decide (src.toNat ≤ 5)

/-- The validation of VOLUME_ADJUST (R88): `g <= 31`, unsigned. -/
def gainInRange (g : Byte) : Bool := decide (g.toNat ≤ 31)

/-- The bound of a track identifier (R59): `1 <= id <= N_TRACKS`. -/
def trackInRange (c : Config) (id : Word) : Bool :=
  decide (1 ≤ id.toNat) && decide (id.toNat ≤ c.nTracks)

/-- The bounds of R6, one after the other. -/
def configInRange (c : Config) : Bool :=
  decide (c.qCap = 10) && decide (c.nTracks ≤ 65535) && sourceInRange c.initSource &&
    sourceInRange c.srcSleep && sourceInRange c.srcCard && decide (c.volAdjBase.toNat ≤ 224)

/-- `msg[18:16]` (R58). -/
def msgTag (w : MsgWord) : BitVec 3 := w.extractLsb' 16 3

/-- `msg[15:0]` (R58). -/
def msgId (w : MsgWord) : Word := w.extractLsb' 0 16

/-- R59: a word is valid when its tag is 1 to 5, or its tag is 0 and `1 <= id <= N_TRACKS`. -/
def msgValid (c : Config) (w : MsgWord) : Bool :=
  (decide (1 ≤ (msgTag w).toNat) && decide ((msgTag w).toNat ≤ 5)) ||
    (decide (msgTag w = 0) && trackInRange c (msgId w))

end Sys2Proof.Machine
end

