-- ==== Sys2Proof/Machine/FrameCodec.lean ====
section
/-! DEFINITION. The Frame Codec: the checksum (R76), `encode` (R75), well-formed frames (R57), and the frame as an 80-bit vector (R56). -/

namespace Sys2Proof.Machine

/-- One subtraction of the checksum: `acc -_16 zext_16(b)`. -/
def cksumStep (acc : Word) (b : Byte) : Word := acc - b.setWidth 16

/-- `cksum` (R76): start at zero, subtract the six bytes in order, modulo 2^16. -/
def cksum (b1 b2 b3 b4 b5 b6 : Byte) : Word := [b1, b2, b3, b4, b5, b6].foldl cksumStep 0x0000

/-- `zext_8` of the one-bit feedback flag. -/
def fbByte (fb : Bool) : Byte := if fb then 0x01 else 0x00

/-- `encode(op, fb, msb, lsb)` (R75): total, no failure mode. -/
def encodeFrame (op : Byte) (fb : Bool) (p : Param) : Frame :=
  let c := cksum 0xFF 0x06 op (fbByte fb) p.msb p.lsb
  { start := 0x7E, version := 0xFF, len := 0x06, opcode := op, fb := fbByte fb, msb := p.msb, lsb := p.lsb,
    ckMsb := hiByte c, ckLsb := loByte c, stop := 0xEF }

/-- The checksum of a frame's bytes 1 to 6. -/
def frameCksum (f : Frame) : Word := cksum f.version f.len f.opcode f.fb f.msb f.lsb

/-- The constant bytes 0, 1, 2, 9 and a feedback byte of 0 or 1 (R56). -/
def frameConstants (f : Frame) : Bool :=
  decide (f.start = 0x7E) && decide (f.version = 0xFF) && decide (f.len = 0x06) && decide (f.stop = 0xEF) &&
    decide (f.fb.toNat ≤ 1)

/-- R57: a well-formed frame. -/
def frameWellFormed (f : Frame) : Bool :=
  frameConstants f && decide (joinBytes f.ckMsb f.ckLsb = frameCksum f)

/-- The frame's bytes in transmission order, byte 0 first (R47 c). -/
def frameBytes (f : Frame) : List Byte :=
  [f.start, f.version, f.len, f.opcode, f.fb, f.msb, f.lsb, f.ckMsb, f.ckLsb, f.stop]

/-- The 80-bit vector of R56: byte 0 is `frame[79:72]`, byte 9 is `frame[7:0]`. -/
def frameToBits (f : Frame) : BitVec 80 :=
  f.start ++ f.version ++ f.len ++ f.opcode ++ f.fb ++ f.msb ++ f.lsb ++ f.ckMsb ++ f.ckLsb ++ f.stop

/-- Byte `i` of an 80-bit vector is `v[79 - 8*i : 72 - 8*i]` (R56). -/
def frameOfBits (v : BitVec 80) : Frame where
  start := v.extractLsb' 72 8
  version := v.extractLsb' 64 8
  len := v.extractLsb' 56 8
  opcode := v.extractLsb' 48 8
  fb := v.extractLsb' 40 8
  msb := v.extractLsb' 32 8
  lsb := v.extractLsb' 24 8
  ckMsb := v.extractLsb' 16 8
  ckLsb := v.extractLsb' 8 8
  stop := v.extractLsb' 0 8

end Sys2Proof.Machine
end

