-- ==== Sys2Proof/Machine/State.lean ====
section
/-! DEFINITION. The state of PN-SCF (R10 to R19, R27), the actions of the agents (R8), the observables of a step (R9), the reasons a step can stop, and the machine after reset. -/

namespace Sys2Proof.Machine

/-- `PHASE` (R13); the encoding 3 is unreachable and has no value here (log 12). -/
inductive Phase where
  | init
  | run
  | halt
deriving DecidableEq, Repr

/-- `ST` (R15). -/
inductive St where
  | idle
  | send
  | flush
  | pace
deriving DecidableEq, Repr

/-- The two calls on the Transport Sink (R40). Also the kind of a transport error (R153): `TX_SEND`, `TX_FLUSH`. -/
inductive SinkCall where
  | send
  | flush
deriving DecidableEq, Repr

/-- The Sink's answer to a call (R41, R42); the error value is opaque to the block (R40). -/
inductive Answer where
  | ok
  | err
deriving DecidableEq, Repr

/-- The rejection codes of the catalog (R151). -/
inductive RejectCode where
  /-- `ERR_SOURCE_RANGE`, 1. -/
  | sourceRange
  /-- `ERR_GAIN_RANGE`, 2. -/
  | gainRange
  /-- `ERR_BAD_OP`, 3. -/
  | badOp
deriving DecidableEq, Repr

/-- The result of a catalog evaluation (R60). -/
inductive CatResult where
  | ok (f : Frame)
  | reject (c : RejectCode)
deriving DecidableEq, Repr

/-- One scheduled action of an agent of R8. A list of them is a schedule, the spec's "program". -/
inductive Action where
  /-- The Dispatcher is scheduled: it takes its one enabled step, if it has one (R120). -/
  | dispatcher
  /-- The Sink answers the call `c` (R41, R42); ignored unless that call is pending (R24). -/
  | sink (c : SinkCall) (a : Answer)
  /-- One rising edge of `clk` (R131). -/
  | tick
  /-- Producer `p` offers the word `w` (R32 to R34); the block does not see `p` (R163). -/
  | offer (p : Nat) (w : MsgWord)
  /-- A catalog user drives the catalog port (R60). -/
  | catalog (sel : BitVec 5) (a b : Word)
  /-- A tick with `rst = 1` (R170). -/
  | reset
deriving DecidableEq, Repr

/-- What a run shows of one step (R9), with the dequeue, the tick and the end of pacing named besides. -/
inductive Event where
  /-- `send(f)` is called on the Sink (R41). -/
  | send (f : Frame)
  /-- `flush()` is called on the Sink (R42). -/
  | flush
  /-- The Sink answered the pending call `c`. -/
  | answered (c : SinkCall) (a : Answer)
  /-- `TxError(kind)`: `err_strobe` with `err_kind` (R153). -/
  | txError (c : SinkCall)
  /-- An offer was accepted and enqueued (R32). -/
  | enqueued (w : MsgWord)
  /-- A malformed offer was accepted and dropped (R33). -/
  | dropped (w : MsgWord)
  /-- A valid offer was not accepted, the queue being full (R34). -/
  | suspended (w : MsgWord)
  /-- The Dispatcher dequeued the word `w` (R36). -/
  | dequeued (w : MsgWord)
  /-- A catalog evaluation gave `r` (R60). -/
  | catalog (r : CatResult)
  /-- A tick (R131). -/
  | tick
  /-- The pacing delay ended (R132). -/
  | endPace
  /-- A reset step (R170). -/
  | reset
  /-- The scheduled agent had no enabled step: suspended, or its input ignored. -/
  | noStep
deriving DecidableEq, Repr

/-- Why the machine stops with a fault. Neither is reachable from reset. -/
inductive Fault where
  /-- A word with tag 6 or 7 is at the head of the queue when the Dispatcher dequeues. Raised by the
  Dispatcher's dequeue, as R133 asks ("a last arm for them that faults"). Safe. -/
  | malformedInQueue
  /-- INIT_IDX = 3 when the Dispatcher needs it in phase INIT. Raised by the Dispatcher's initialization
  dispatch and end of pacing (R65 f: "a model need give them no meaning"; U6). Safe. -/
  | illegalInitIdx
deriving DecidableEq, Repr

/-- Why the machine refuses. -/
inductive Refusal where
  /-- An instruction without a meaning in this model; raised by no arm of `exec`. Safe. -/
  | notModelled (mnemonic : String)
  /-- The configuration is ill-formed: "a model refuses an ill-formed one" (R6, U8). Raised by the step and by
  every meaning. Safe. -/
  | illFormedConfig
deriving DecidableEq, Repr

/-- The state: the tuple of R10, the configuration, and the model's own fields `sched`, `obs`, `freeCtr`. -/
structure State where
  /-- `VOL` (R11). -/
  vol      : Byte
  /-- `PHASE` (R13). -/
  phase    : Phase
  /-- `INIT_IDX` (R14). -/
  initIdx  : BitVec 2
  /-- `ST` (R15). -/
  st       : St
  /-- `PACE_CNT` (R16). -/
  paceCnt  : Nat
  /-- `FRAME_REG` (R17). -/
  frameReg : Frame
  /-- `Q` (R18), head first. -/
  q        : List MsgWord
  /-- `CFG` (R5): a parameter of the instance, written by no step (log 4). -/
  cfg      : Config
  /-- The model's own: the actions still to come (log 1). -/
  sched    : List Action
  /-- The model's own: the events of the last step; no rule reads it (R9, log 7). -/
  obs      : List Event
  /-- The model's own: numbers the free values of FRAME_REG (log 6). -/
  freeCtr  : Nat
deriving DecidableEq, Repr

/-- The machine of configuration `c` right after reset (R27, R170). FRAME_REG is unspecified by the spec; ten
zero bytes are the model's DESIGN CHOICE (unsafe, log 5). -/
def State.resetFor (c : Config) : State where
  vol := c.volDefault
  phase := .init
  initIdx := 0
  st := .idle
  paceCnt := 0
  frameReg := ⟨0, 0, 0, 0, 0, 0, 0, 0, 0, 0⟩
  q := []
  cfg := c
  sched := []
  obs := []
  freeCtr := 0

/-- The machine right after reset, for the illustrative configuration `CFG_EX` (DESIGN CHOICE, log 4). -/
def State.reset : State := State.resetFor Config.cfgEx

end Sys2Proof.Machine
end

