-- ==== Sys2Proof/Syntax.lean ====
section
/-! DEFINITION. The instructions of PN-SCF: one constructor for each row of spec/opcode_table.json (R69). -/

namespace Sys2Proof

/-- 29 catalog operations (R60), 6 ControlMessages (R58), 3 initialization steps (R123). PAUSE, RESUME and
STOP name a catalog operation and a ControlMessage each: the ControlMessages have the prefix `msg`.
Operand bits that the spec says are ignored (R59, R61) are dropped by the decoder (log 15). -/
inductive Instr where
  /-- `RAW op, fb, msb, lsb` (R80). -/
  | raw (op : Byte) (fb : Bool) (msb lsb : Byte)
  /-- `NEXT` (R95). -/
  | next
  /-- `PREV` (R96). -/
  | prev
  /-- `PLAY_TRACK n` (R83). -/
  | playTrack (n : Word)
  /-- `VOL_INC` (R97). -/
  | volInc
  /-- `VOL_DEC` (R98). -/
  | volDec
  /-- `SET_VOLUME v` (R84). -/
  | setVolume (v : Byte)
  /-- `SET_EQ p` (R99). -/
  | setEq (p : Word)
  /-- `LOOP_MODE p` (R100). -/
  | loopMode (p : Word)
  /-- `SELECT_SOURCE s` (R85). -/
  | selectSource (src : Byte)
  /-- `STANDBY` (R101). -/
  | standby
  /-- `NORMAL` (R102). -/
  | normal
  /-- `RESET` (R103), the frame that asks the audio module to reset; not the block's reset. -/
  | reset
  /-- `RESUME`, the catalog operation (R104). -/
  | resume
  /-- `PAUSE`, the catalog operation (R105). -/
  | pause
  /-- `PLAY_FOLDER folder, track` (R86). -/
  | playFolder (folder track : Byte)
  /-- `VOLUME_ADJUST g` (R88). -/
  | volumeAdjust (g : Byte)
  /-- `REPEAT_PLAY p` (R106). -/
  | repeatPlay (p : Word)
  /-- `PLAY_MP3_FOLDER p` (R107). -/
  | playMp3Folder (p : Word)
  /-- `INSERT_ADVERT p` (R108). -/
  | insertAdvert (p : Word)
  /-- `PLAY_FOLDER_LARGE folder, track` (R87). -/
  | playFolderLarge (folder : Byte) (track : Word)
  /-- `STOP_ADVERT` (R109). -/
  | stopAdvert
  /-- `STOP`, the catalog operation (R110). -/
  | stop
  /-- `REPEAT_FOLDER p` (R111). -/
  | repeatFolder (p : Word)
  /-- `RANDOM_ALL` (R112). -/
  | randomAll
  /-- `REPEAT_CURRENT p` (R113). -/
  | repeatCurrent (p : Word)
  /-- `SET_DAC p` (R114). -/
  | setDac (p : Word)
  /-- `SLEEP` (R89). -/
  | sleep
  /-- `WAKE` (R90). -/
  | wake
  /-- ControlMessage `TRACK(id)` (R139). -/
  | msgTrack (id : Word)
  /-- ControlMessage `PAUSE` (R134). -/
  | msgPause
  /-- ControlMessage `RESUME` (R135). -/
  | msgResume
  /-- ControlMessage `STOP` (R136). -/
  | msgStop
  /-- ControlMessage `VOLUP` (R137). -/
  | msgVolup
  /-- ControlMessage `VOLDOWN` (R138). -/
  | msgVoldown
  /-- `INIT0`, "select source" (R124). -/
  | init0
  /-- `INIT1`, "set initial volume" (R125). -/
  | init1
  /-- `INIT2`, "play a welcome track" (R126). -/
  | init2
deriving DecidableEq, Repr

end Sys2Proof
end

