-- ==== Sys2Proof/WellFormed.lean ====
section
/-! DEFINITION. Well-formed configurations (R6) and the operands the spec's validations accept (R59, R85, R88). -/

namespace Sys2Proof

/-- R6. A model refuses any other configuration. -/
def Config.wellFormed (c : Config) : Bool := Machine.configInRange c

/-- The operands pass the check the spec makes on them: SELECT_SOURCE and VOLUME_ADJUST validate their operand
(R85, R88), TRACK is valid for `1 <= id <= N_TRACKS` (R59), and "no range validation beyond what is explicitly
stated" (R91) exists for any other instruction. -/
def Instr.wellFormed (c : Config) (i : Instr) : Bool :=
  match i with
  | .raw _ _ _ _ => true
  | .next => true
  | .prev => true
  | .playTrack _ => true
  | .volInc => true
  | .volDec => true
  | .setVolume _ => true
  | .setEq _ => true
  | .loopMode _ => true
  | .selectSource src => Machine.sourceInRange src
  | .standby => true
  | .normal => true
  | .reset => true
  | .resume => true
  | .pause => true
  | .playFolder _ _ => true
  | .volumeAdjust g => Machine.gainInRange g
  | .repeatPlay _ => true
  | .playMp3Folder _ => true
  | .insertAdvert _ => true
  | .playFolderLarge _ _ => true
  | .stopAdvert => true
  | .stop => true
  | .repeatFolder _ => true
  | .randomAll => true
  | .repeatCurrent _ => true
  | .setDac _ => true
  | .sleep => true
  | .wake => true
  | .msgTrack id => Machine.trackInRange c id
  | .msgPause => true
  | .msgResume => true
  | .msgStop => true
  | .msgVolup => true
  | .msgVoldown => true
  | .init0 => true
  | .init1 => true
  | .init2 => true

end Sys2Proof
end

