-- ==== Sys2Proof/Machine/Ops.lean ====
section
/-! DEFINITION. The named operations on the state: the queue, the Sink calls and answers, taking an error, pacing, the producer port, reset, and the two guards the meanings share. -/

namespace Sys2Proof.Machine

/-- An outcome of this machine. -/
abbrev Result := Host.Outcome State Fault Refusal

/-- The state with one more event observed in this step. -/
def observe (e : Event) (s : State) : State := { s with obs := s.obs ++ [e] }

/-- The step leaves the block as it was: the scheduled agent has no enabled step (R120, log 8). -/
def noStep (s : State) : State := observe .noStep s

/-! ### The queue -/

/-- `QEnq(m)` (R32): the word is appended at the tail. -/
def qEnq (w : MsgWord) (s : State) : State := { s with q := s.q ++ [w] }

/-- `QDeq()` (R36): the head word and the state without it; nothing when the queue is empty. -/
def qDeq (s : State) : Option (MsgWord × State) :=
  match s.q with
  | [] => none
  | w :: rest => some (w, { s with q := rest })

/-- An offer at the producer port. Malformed: dropped in every state (R33). Valid with room: enqueued (R32).
Valid with the queue full: no step, the producer is suspended (R34). -/
def offerWord (w : MsgWord) (s : State) : State :=
  if msgValid s.cfg w = false then observe (.dropped w) s
  else if s.q.length < s.cfg.qCap then observe (.enqueued w) (qEnq w s)
  else observe (.suspended w) s

/-! ### Sending and pacing -/

/-- `start_send(f)` (R127). -/
def startSend (f : Frame) (s : State) : State :=
  observe (.send f) { s with frameReg := f, st := .send }

/-- `enter_pace()` (R130). -/
def enterPace (s : State) : State := { s with st := .pace, paceCnt := s.cfg.paceTicks }

/-- The Sink's ok answers (R128): after `send` the flush is called, after `flush` the pacing delay starts. -/
def sinkOk (c : SinkCall) (s : State) : State :=
  match c with
  | .send => observe .flush { s with st := .flush }
  | .flush => enterPace s

/-- The Dispatcher state after an error answer (R129, R156): fatal in phase INIT, dropped in phase RUN. -/
def afterError (s : State) : State :=
  match s.phase with
  | .init => { s with phase := .halt, st := .idle }
  | .run => enterPace s
  | .halt => s

/-- TAKING A TRANSPORT ERROR (R129, R153, R156): `TxError(kind)` is emitted, nothing is saved or rolled back. -/
def takeTransportError (c : SinkCall) (s : State) : State := afterError (observe (.txError c) s)

/-- The call that is pending on the Sink: exactly `ST = SEND` or `ST = FLUSH` (R19); none in HALT (R140, log 9). -/
def pendingCall (s : State) : Option SinkCall :=
  match s.phase, s.st with
  | .halt, _ => none
  | _, .send => some .send
  | _, .flush => some .flush
  | _, .idle => none
  | _, .pace => none

/-- The Sink answers the call `c`. An answer to a call that is not pending is ignored (R24). -/
def sinkAnswer (c : SinkCall) (a : Answer) (s : State) : State :=
  if pendingCall s = some c then
    match a with
    | .ok => sinkOk c (observe (.answered c .ok) s)
    | .err => takeTransportError c (observe (.answered c .err) s)
  else noStep s

/-- `Tick` (R131); it changes nothing in HALT (R140, log 9). -/
def tickClock (s : State) : State :=
  if s.phase ≠ .halt ∧ s.st = .pace ∧ 0 < s.paceCnt then observe .tick { s with paceCnt := s.paceCnt - 1 }
  else observe .tick s

/-- The end of the pacing delay (R132), for `ST = PACE`, `PACE_CNT = 0` and a phase other than HALT. The tests
use INIT_IDX before the step; INIT_IDX = 3 faults (log 12). -/
def endPace (s : State) : Result :=
  match s.phase with
  | .init =>
    match s.initIdx.toNat with
    | 0 => .next (observe .endPace { s with st := .idle, initIdx := 1 })
    | 1 => .next (observe .endPace { s with st := .idle, initIdx := 2 })
    | 2 => .next (observe .endPace { s with st := .idle, phase := .run })
    | _ => .fault .illegalInitIdx
  | .run => .next (observe .endPace { s with st := .idle })
  | .halt => .next (noStep s)

/-! ### Reset -/

/-- The Reset step (R170): every register at its reset value; FRAME_REG is a FREE VALUE (log 6). The actions
still to come and the configuration are no registers and stay. -/
def resetStep (s : State) : State :=
  { State.resetFor s.cfg with
    frameReg := Config.freeFrame s.freeCtr
    freeCtr := s.freeCtr + 1
    sched := s.sched
    obs := s.obs ++ [.reset] }

/-! ### What the meanings share -/

/-- "a model refuses an ill-formed one" (R6): no rule is stated for an ill-formed configuration (log 13). -/
def guarded (s : State) (r : Result) : Result :=
  if s.cfg.wellFormed then r else .refused .illFormedConfig

/-- A catalog evaluation shows its result, a frame or `Reject(code)`, at the catalog port and changes no
register (R60, R91, R151). -/
def showCatalog (r : CatResult) (s : State) : Result := guarded s (.next (observe (.catalog r) s))

/-- `start_send` of the frame of a catalog call of the Dispatcher (R123, R133). For a well-formed configuration
the call is not rejected (R124, R155 v). -/
def sendCatalog (r : CatResult) (s : State) : Result :=
  match r with
  | .ok f => .next (startSend f s)
  | .reject _ => .refused .illFormedConfig

/-- The guard of the six messages (R133): PHASE = RUN and ST = IDLE; otherwise the Dispatcher has no such step. -/
def whenRunIdle (s : State) (r : Result) : Result :=
  guarded s (if s.phase = .run ∧ s.st = .idle then r else .next (noStep s))

/-- The guard of initialization step `k` (R123): PHASE = INIT, ST = IDLE and INIT_IDX = k. -/
def whenInitIdle (k : BitVec 2) (s : State) (r : Result) : Result :=
  guarded s (if s.phase = .init ∧ s.st = .idle ∧ s.initIdx = k then r else .next (noStep s))

end Sys2Proof.Machine
end

