-- ==== Sys2Proof/Machine/CatalogExplicit.lean ====
section
/-! DEFINITION. RAW (R80) and the catalog operations whose encoding rule the source spells out (41_catalog_explicit.md, R83 to R90): for each, the pure function of the catalog and the meaning of its evaluation at the catalog port. -/

namespace Sys2Proof.Machine

/-- `RAW op, fb, msb, lsb` (R80): the Frame Codec itself, never rejected. -/
def catRaw (op : Byte) (fb : Bool) (msb lsb : Byte) : CatResult := .ok (encodeFrame op fb (paramRaw msb lsb))

/-- `RAW` evaluated at the catalog port. -/
def execRaw (op : Byte) (fb : Bool) (msb lsb : Byte) (s : State) : Result := showCatalog (catRaw op fb msb lsb) s

/-- `PLAY_TRACK n` (R83): form P16; every 16-bit `n` is accepted. -/
def catPlayTrack (n : Word) : CatResult := .ok (encodeFrame 0x03 true (paramP16 n))

/-- `PLAY_TRACK` evaluated at the catalog port. -/
def execPlayTrack (n : Word) (s : State) : Result := showCatalog (catPlayTrack n) s

/-- `SET_VOLUME v` (R84): form B8; not validated. -/
def catSetVolume (v : Byte) : CatResult := .ok (encodeFrame 0x06 true (paramB8 v))

/-- `SET_VOLUME` evaluated at the catalog port. -/
def execSetVolume (v : Byte) (s : State) : Result := showCatalog (catSetVolume v) s

/-- `SELECT_SOURCE s` (R85): `Reject(ERR_SOURCE_RANGE)` unless `1 <= s <= 5`; form B8. -/
def catSelectSource (src : Byte) : CatResult :=
  if sourceInRange src then .ok (encodeFrame 0x09 true (paramB8 src)) else .reject .sourceRange

/-- `SELECT_SOURCE` evaluated at the catalog port. -/
def execSelectSource (src : Byte) (s : State) : Result := showCatalog (catSelectSource src) s

/-- `PLAY_FOLDER folder, track` (R86): form PAIR. -/
def catPlayFolder (folder track : Byte) : CatResult := .ok (encodeFrame 0x0F true (paramPair folder track))

/-- `PLAY_FOLDER` evaluated at the catalog port. -/
def execPlayFolder (folder track : Byte) (s : State) : Result := showCatalog (catPlayFolder folder track) s

/-- `PLAY_FOLDER_LARGE folder, track` (R87): form PACK. -/
def catPlayFolderLarge (folder : Byte) (track : Word) : CatResult :=
  .ok (encodeFrame 0x14 true (paramPack folder track))

/-- `PLAY_FOLDER_LARGE` evaluated at the catalog port. -/
def execPlayFolderLarge (folder : Byte) (track : Word) (s : State) : Result :=
  showCatalog (catPlayFolderLarge folder track) s

/-- `VOLUME_ADJUST g` (R88): `Reject(ERR_GAIN_RANGE)` when `g > 31`; form ADJ. -/
def catVolumeAdjust (c : Config) (g : Byte) : CatResult :=
  if gainInRange g then .ok (encodeFrame 0x10 true (paramAdj c g)) else .reject .gainRange

/-- `VOLUME_ADJUST` evaluated at the catalog port. -/
def execVolumeAdjust (g : Byte) (s : State) : Result := showCatalog (catVolumeAdjust s.cfg g) s

/-- `SLEEP` (R89): SELECT_SOURCE with the sleep-source constant. -/
def catSleep (c : Config) : CatResult := catSelectSource c.srcSleep

/-- `SLEEP` evaluated at the catalog port. -/
def execSleep (s : State) : Result := showCatalog (catSleep s.cfg) s

/-- `WAKE` (R90): SELECT_SOURCE with the card-source constant. -/
def catWake (c : Config) : CatResult := catSelectSource c.srcCard

/-- `WAKE` evaluated at the catalog port. -/
def execWake (s : State) : Result := showCatalog (catWake s.cfg) s

end Sys2Proof.Machine
end

