-- ==== Sys2Proof/Machine/CatalogFixed.lean ====
section
/-! DEFINITION. The fixed-opcode catalog operations (42_catalog_fixed.md, R95 to R114): for each, the pure function of the catalog and the meaning of its evaluation at the catalog port. The feedback flag is 1, but for RESUME and PAUSE (R63). None can be rejected (R115). -/

namespace Sys2Proof.Machine

/-- `NEXT` (R95): form ZERO. -/
def catNext : CatResult := .ok (encodeFrame 0x01 true paramZero)

/-- `NEXT` evaluated at the catalog port. -/
def execNextTrack (s : State) : Result := showCatalog catNext s

/-- `PREV` (R96): form ZERO. -/
def catPrev : CatResult := .ok (encodeFrame 0x02 true paramZero)

/-- `PREV` evaluated at the catalog port. -/
def execPrevTrack (s : State) : Result := showCatalog catPrev s

/-- `VOL_INC` (R97): form ZERO. -/
def catVolInc : CatResult := .ok (encodeFrame 0x04 true paramZero)

/-- `VOL_INC` evaluated at the catalog port. -/
def execVolInc (s : State) : Result := showCatalog catVolInc s

/-- `VOL_DEC` (R98): form ZERO. -/
def catVolDec : CatResult := .ok (encodeFrame 0x05 true paramZero)

/-- `VOL_DEC` evaluated at the catalog port. -/
def execVolDec (s : State) : Result := showCatalog catVolDec s

/-- `STANDBY` (R101): form ZERO. -/
def catStandby : CatResult := .ok (encodeFrame 0x0A true paramZero)

/-- `STANDBY` evaluated at the catalog port. -/
def execStandby (s : State) : Result := showCatalog catStandby s

/-- `NORMAL` (R102): form ZERO. -/
def catNormal : CatResult := .ok (encodeFrame 0x0B true paramZero)

/-- `NORMAL` evaluated at the catalog port. -/
def execNormal (s : State) : Result := showCatalog catNormal s

/-- `RESET` (R103): form ZERO. -/
def catReset : CatResult := .ok (encodeFrame 0x0C true paramZero)

/-- `RESET` evaluated at the catalog port. -/
def execReset (s : State) : Result := showCatalog catReset s

/-- `RESUME` (R104): form ZERO. -/
def catResume : CatResult := .ok (encodeFrame 0x0D false paramZero)

/-- `RESUME` evaluated at the catalog port. -/
def execResume (s : State) : Result := showCatalog catResume s

/-- `PAUSE` (R105): form ZERO. -/
def catPause : CatResult := .ok (encodeFrame 0x0E false paramZero)

/-- `PAUSE` evaluated at the catalog port. -/
def execPause (s : State) : Result := showCatalog catPause s

/-- `STOP_ADVERT` (R109): form ZERO. -/
def catStopAdvert : CatResult := .ok (encodeFrame 0x15 true paramZero)

/-- `STOP_ADVERT` evaluated at the catalog port. -/
def execStopAdvert (s : State) : Result := showCatalog catStopAdvert s

/-- `STOP` (R110): form ZERO. -/
def catStop : CatResult := .ok (encodeFrame 0x16 true paramZero)

/-- `STOP` evaluated at the catalog port. -/
def execStop (s : State) : Result := showCatalog catStop s

/-- `RANDOM_ALL` (R112): form ZERO. -/
def catRandomAll : CatResult := .ok (encodeFrame 0x18 true paramZero)

/-- `RANDOM_ALL` evaluated at the catalog port. -/
def execRandomAll (s : State) : Result := showCatalog catRandomAll s

/-- `SET_EQ p` (R99): form P16. -/
def catSetEq (p : Word) : CatResult := .ok (encodeFrame 0x07 true (paramP16 p))

/-- `SET_EQ` evaluated at the catalog port. -/
def execSetEq (p : Word) (s : State) : Result := showCatalog (catSetEq p) s

/-- `LOOP_MODE p` (R100): form P16. -/
def catLoopMode (p : Word) : CatResult := .ok (encodeFrame 0x08 true (paramP16 p))

/-- `LOOP_MODE` evaluated at the catalog port. -/
def execLoopMode (p : Word) (s : State) : Result := showCatalog (catLoopMode p) s

/-- `REPEAT_PLAY p` (R106): form P16. -/
def catRepeatPlay (p : Word) : CatResult := .ok (encodeFrame 0x11 true (paramP16 p))

/-- `REPEAT_PLAY` evaluated at the catalog port. -/
def execRepeatPlay (p : Word) (s : State) : Result := showCatalog (catRepeatPlay p) s

/-- `PLAY_MP3_FOLDER p` (R107): form P16. -/
def catPlayMp3Folder (p : Word) : CatResult := .ok (encodeFrame 0x12 true (paramP16 p))

/-- `PLAY_MP3_FOLDER` evaluated at the catalog port. -/
def execPlayMp3Folder (p : Word) (s : State) : Result := showCatalog (catPlayMp3Folder p) s

/-- `INSERT_ADVERT p` (R108): form P16. -/
def catInsertAdvert (p : Word) : CatResult := .ok (encodeFrame 0x13 true (paramP16 p))

/-- `INSERT_ADVERT` evaluated at the catalog port. -/
def execInsertAdvert (p : Word) (s : State) : Result := showCatalog (catInsertAdvert p) s

/-- `REPEAT_FOLDER p` (R111): form P16. -/
def catRepeatFolder (p : Word) : CatResult := .ok (encodeFrame 0x17 true (paramP16 p))

/-- `REPEAT_FOLDER` evaluated at the catalog port. -/
def execRepeatFolder (p : Word) (s : State) : Result := showCatalog (catRepeatFolder p) s

/-- `REPEAT_CURRENT p` (R113): form P16. -/
def catRepeatCurrent (p : Word) : CatResult := .ok (encodeFrame 0x19 true (paramP16 p))

/-- `REPEAT_CURRENT` evaluated at the catalog port. -/
def execRepeatCurrent (p : Word) (s : State) : Result := showCatalog (catRepeatCurrent p) s

/-- `SET_DAC p` (R114): form P16. -/
def catSetDac (p : Word) : CatResult := .ok (encodeFrame 0x1A true (paramP16 p))

/-- `SET_DAC` evaluated at the catalog port. -/
def execSetDac (p : Word) (s : State) : Result := showCatalog (catSetDac p) s

end Sys2Proof.Machine
end

