-- ==== Sys2Proof/Machine/Messages.lean ====
section
/-! DEFINITION. The six ControlMessages (R134 to R139) and the three initialization steps (R124 to R126). The dequeue that hands a message over is the step's (R133, log 22). -/

namespace Sys2Proof.Machine

/-- `TRACK(id)` (R139): emit a PLAY_TRACK frame with that identifier; the range is not checked again. -/
def execMsgTrack (id : Word) (s : State) : Result := whenRunIdle s (sendCatalog (catPlayTrack id) s)

/-- `PAUSE` (R134). -/
def execMsgPause (s : State) : Result := whenRunIdle s (sendCatalog catPause s)

/-- `RESUME` (R135). -/
def execMsgResume (s : State) : Result := whenRunIdle s (sendCatalog catResume s)

/-- `STOP` (R136). -/
def execMsgStop (s : State) : Result := whenRunIdle s (sendCatalog catStop s)

/-- `VOLUP` (R137): first `VOL <- VOL +_8 1`, then SET_VOLUME with the new value (wrap: log 10). -/
def execMsgVolup (s : State) : Result :=
  whenRunIdle s (sendCatalog (catSetVolume (s.vol + 1)) { s with vol := s.vol + 1 })

/-- `VOLDOWN` (R138): first `VOL <- VOL -_8 1`, then SET_VOLUME with the new value (wrap: log 10). -/
def execMsgVoldown (s : State) : Result :=
  whenRunIdle s (sendCatalog (catSetVolume (s.vol - 1)) { s with vol := s.vol - 1 })

/-- `INIT0`, "select source" (R124). -/
def execInit0 (s : State) : Result := whenInitIdle 0 s (sendCatalog (catSelectSource s.cfg.initSource) s)

/-- `INIT1`, "set initial volume" (R125). -/
def execInit1 (s : State) : Result := whenInitIdle 1 s (sendCatalog (catSetVolume s.vol) s)

/-- `INIT2`, "play a welcome track" (R126). -/
def execInit2 (s : State) : Result := whenInitIdle 2 s (sendCatalog (catPlayTrack s.cfg.welcomeTrack) s)

end Sys2Proof.Machine
end

