-- ==== Sys2Proof/Machine/Dispatch.lean ====
section
/-! DEFINITION. The dispatch: one arm for each constructor of Instr. -/

namespace Sys2Proof.Machine

def exec (i : Instr) (s : State) : Host.Outcome State Fault Refusal :=
  match i with
  | .raw op fb msb lsb => Sys2Proof.Machine.execRaw op fb msb lsb s
  | .next => Sys2Proof.Machine.execNextTrack s
  | .prev => Sys2Proof.Machine.execPrevTrack s
  | .playTrack n => Sys2Proof.Machine.execPlayTrack n s
  | .volInc => Sys2Proof.Machine.execVolInc s
  | .volDec => Sys2Proof.Machine.execVolDec s
  | .setVolume v => Sys2Proof.Machine.execSetVolume v s
  | .setEq p => Sys2Proof.Machine.execSetEq p s
  | .loopMode p => Sys2Proof.Machine.execLoopMode p s
  | .selectSource src => Sys2Proof.Machine.execSelectSource src s
  | .standby => Sys2Proof.Machine.execStandby s
  | .normal => Sys2Proof.Machine.execNormal s
  | .reset => Sys2Proof.Machine.execReset s
  | .resume => Sys2Proof.Machine.execResume s
  | .pause => Sys2Proof.Machine.execPause s
  | .playFolder folder track => Sys2Proof.Machine.execPlayFolder folder track s
  | .volumeAdjust g => Sys2Proof.Machine.execVolumeAdjust g s
  | .repeatPlay p => Sys2Proof.Machine.execRepeatPlay p s
  | .playMp3Folder p => Sys2Proof.Machine.execPlayMp3Folder p s
  | .insertAdvert p => Sys2Proof.Machine.execInsertAdvert p s
  | .playFolderLarge folder track => Sys2Proof.Machine.execPlayFolderLarge folder track s
  | .stopAdvert => Sys2Proof.Machine.execStopAdvert s
  | .stop => Sys2Proof.Machine.execStop s
  | .repeatFolder p => Sys2Proof.Machine.execRepeatFolder p s
  | .randomAll => Sys2Proof.Machine.execRandomAll s
  | .repeatCurrent p => Sys2Proof.Machine.execRepeatCurrent p s
  | .setDac p => Sys2Proof.Machine.execSetDac p s
  | .sleep => Sys2Proof.Machine.execSleep s
  | .wake => Sys2Proof.Machine.execWake s
  | .msgTrack id => Sys2Proof.Machine.execMsgTrack id s
  | .msgPause => Sys2Proof.Machine.execMsgPause s
  | .msgResume => Sys2Proof.Machine.execMsgResume s
  | .msgStop => Sys2Proof.Machine.execMsgStop s
  | .msgVolup => Sys2Proof.Machine.execMsgVolup s
  | .msgVoldown => Sys2Proof.Machine.execMsgVoldown s
  | .init0 => Sys2Proof.Machine.execInit0 s
  | .init1 => Sys2Proof.Machine.execInit1 s
  | .init2 => Sys2Proof.Machine.execInit2 s

end Sys2Proof.Machine
end

