-- ==== Sys2Proof/Decode.lean ====
section
/-! DEFINITION. The three encodings an agent presents to the block, the catalog request (R60, R61), the ControlMessage word (R58, R59) and the register INIT_IDX (R123), their decoder and encoder; and the frame read as the encoding of a catalog operation (R57, R69). -/

namespace Sys2Proof

/-- What the block decodes: a request at the catalog port, a word of the queue, the register INIT_IDX. -/
inductive Encoding where
  | request (sel : BitVec 5) (a b : Word)
  | message (w : MsgWord)
  | initStep (k : BitVec 2)
deriving DecidableEq, Repr

/-- The decoder's answer: an instruction, or a rejection by name. -/
inductive Decoded where
  | instr (i : Instr)
  /-- Reserved catalog selectors `0x1D` to `0x1F` (R116). -/
  | reservedSelector
  /-- ControlMessage tags 6 and 7 (R59). -/
  | malformedTag
  /-- The state encoding `INIT_IDX = 3` (R65 f). -/
  | illegalInitIdx
deriving DecidableEq, Repr

/-- The instruction, if there is one. -/
def Decoded.toOption : Decoded → Option Instr
  | .instr i => some i
  | .reservedSelector => none
  | .malformedTag => none
  | .illegalInitIdx => none

/-- The catalog request: selector table of R60, carriage of operands of R61; ignored bits are dropped. -/
def decodeRequest (sel : BitVec 5) (a b : Word) : Decoded :=
  match sel.toNat with
  | 0x00 => .instr (.raw (Machine.loByte b) (b.getLsbD 8) (Machine.hiByte a) (Machine.loByte a))
  | 0x01 => .instr .next
  | 0x02 => .instr .prev
  | 0x03 => .instr (.playTrack a)
  | 0x04 => .instr .volInc
  | 0x05 => .instr .volDec
  | 0x06 => .instr (.setVolume (Machine.loByte a))
  | 0x07 => .instr (.setEq a)
  | 0x08 => .instr (.loopMode a)
  | 0x09 => .instr (.selectSource (Machine.loByte a))
  | 0x0A => .instr .standby
  | 0x0B => .instr .normal
  | 0x0C => .instr .reset
  | 0x0D => .instr .resume
  | 0x0E => .instr .pause
  | 0x0F => .instr (.playFolder (Machine.loByte a) (Machine.loByte b))
  | 0x10 => .instr (.volumeAdjust (Machine.loByte a))
  | 0x11 => .instr (.repeatPlay a)
  | 0x12 => .instr (.playMp3Folder a)
  | 0x13 => .instr (.insertAdvert a)
  | 0x14 => .instr (.playFolderLarge (Machine.loByte a) b)
  | 0x15 => .instr .stopAdvert
  | 0x16 => .instr .stop
  | 0x17 => .instr (.repeatFolder a)
  | 0x18 => .instr .randomAll
  | 0x19 => .instr (.repeatCurrent a)
  | 0x1A => .instr (.setDac a)
  | 0x1B => .instr .sleep
  | 0x1C => .instr .wake
  | _ => .reservedSelector

/-- The ControlMessage word (R58): the tag selects, and only TRACK reads the identifier. The bound
`1 <= id <= N_TRACKS` belongs to the producer port (R59), not to the decoder (R139, log 11). -/
def decodeMessage (w : MsgWord) : Decoded :=
  match (Machine.msgTag w).toNat with
  | 0 => .instr (.msgTrack (Machine.msgId w))
  | 1 => .instr .msgPause
  | 2 => .instr .msgResume
  | 3 => .instr .msgStop
  | 4 => .instr .msgVolup
  | 5 => .instr .msgVoldown
  | _ => .malformedTag

/-- The initialization step that INIT_IDX selects (R123). -/
def decodeInitStep (k : BitVec 2) : Decoded :=
  match k.toNat with
  | 0 => .instr .init0
  | 1 => .instr .init1
  | 2 => .instr .init2
  | _ => .illegalInitIdx

/-- The decoder. -/
def decode : Encoding → Decoded
  | .request sel a b => decodeRequest sel a b
  | .message w => decodeMessage w
  | .initStep k => decodeInitStep k

/-- A 16-bit port that carries one byte in its low half, the ignored upper half zero (R61). -/
def byteOnPort (v : Byte) : Word := v.setWidth 16

/-- RAW's operand on port `b`: `op = b[7:0]`, `fb = b[8]`, `b[15:9]` zero (R61). -/
def rawOnPort (op : Byte) (fb : Bool) : Word := Machine.joinBytes (Machine.fbByte fb) op

/-- A ControlMessage word from its tag and identifier (R58). -/
def messageWord (tag : BitVec 3) (id : Word) : MsgWord := tag ++ id

/-- The encoder, from the tables of R58, R60, R61 and R123; every ignored bit is zero. -/
def encode : Instr → Encoding
  | .raw op fb msb lsb => .request 0x00 (Machine.joinBytes msb lsb) (rawOnPort op fb)
  | .next => .request 0x01 0 0
  | .prev => .request 0x02 0 0
  | .playTrack n => .request 0x03 n 0
  | .volInc => .request 0x04 0 0
  | .volDec => .request 0x05 0 0
  | .setVolume v => .request 0x06 (byteOnPort v) 0
  | .setEq p => .request 0x07 p 0
  | .loopMode p => .request 0x08 p 0
  | .selectSource src => .request 0x09 (byteOnPort src) 0
  | .standby => .request 0x0A 0 0
  | .normal => .request 0x0B 0 0
  | .reset => .request 0x0C 0 0
  | .resume => .request 0x0D 0 0
  | .pause => .request 0x0E 0 0
  | .playFolder folder track => .request 0x0F (byteOnPort folder) (byteOnPort track)
  | .volumeAdjust g => .request 0x10 (byteOnPort g) 0
  | .repeatPlay p => .request 0x11 p 0
  | .playMp3Folder p => .request 0x12 p 0
  | .insertAdvert p => .request 0x13 p 0
  | .playFolderLarge folder track => .request 0x14 (byteOnPort folder) track
  | .stopAdvert => .request 0x15 0 0
  | .stop => .request 0x16 0 0
  | .repeatFolder p => .request 0x17 p 0
  | .randomAll => .request 0x18 0 0
  | .repeatCurrent p => .request 0x19 p 0
  | .setDac p => .request 0x1A p 0
  | .sleep => .request 0x1B 0 0
  | .wake => .request 0x1C 0 0
  | .msgTrack id => .message (messageWord 0 id)
  | .msgPause => .message (messageWord 1 0)
  | .msgResume => .message (messageWord 2 0)
  | .msgStop => .message (messageWord 3 0)
  | .msgVolup => .message (messageWord 4 0)
  | .msgVoldown => .message (messageWord 5 0)
  | .init0 => .initStep 0
  | .init1 => .initStep 1
  | .init2 => .initStep 2

/-- Which bits of the operand ports each selector reads (R61): the masks of `cat_a` and `cat_b`. -/
def operandMasks (sel : BitVec 5) : Word × Word :=
  match sel.toNat with
  | 0x00 => (0xFFFF, 0x01FF)
  | 0x03 => (0xFFFF, 0)
  | 0x06 => (0x00FF, 0)
  | 0x07 => (0xFFFF, 0)
  | 0x08 => (0xFFFF, 0)
  | 0x09 => (0x00FF, 0)
  | 0x0F => (0x00FF, 0x00FF)
  | 0x10 => (0x00FF, 0)
  | 0x11 => (0xFFFF, 0)
  | 0x12 => (0xFFFF, 0)
  | 0x13 => (0xFFFF, 0)
  | 0x14 => (0x00FF, 0xFFFF)
  | 0x17 => (0xFFFF, 0)
  | 0x19 => (0xFFFF, 0)
  | 0x1A => (0xFFFF, 0)
  | _ => (0, 0)

/-- An encoding with every bit that R59 and R61 call ignored set to zero. -/
def Encoding.canonical : Encoding → Encoding
  | .request sel a b => .request sel (a &&& (operandMasks sel).1) (b &&& (operandMasks sel).2)
  | .message w => if Machine.msgTag w = 0 then .message w else .message (messageWord (Machine.msgTag w) 0)
  | .initStep k => .initStep k

/-- The most specific frame row of the opcode table (R69) that bytes 3 to 6 match; every LogicalCommand
matches the row RAW. SLEEP and WAKE match a subset of SELECT_SOURCE's frames and decode to it. -/
def tableRow (c : Config) (op : Byte) (fb : Bool) (msb lsb : Byte) : Instr :=
  let zero (i : Instr) : Instr := if fb = true ∧ msb = 0 ∧ lsb = 0 then i else .raw op fb msb lsb
  let silent (i : Instr) : Instr := if fb = false ∧ msb = 0 ∧ lsb = 0 then i else .raw op fb msb lsb
  let p16 (k : Word → Instr) : Instr := if fb = true then k (Machine.joinBytes msb lsb) else .raw op fb msb lsb
  let b8 (k : Byte → Instr) : Instr := if fb = true ∧ msb = 0 then k lsb else .raw op fb msb lsb
  match op.toNat with
  | 0x01 => zero .next
  | 0x02 => zero .prev
  | 0x03 => p16 .playTrack
  | 0x04 => zero .volInc
  | 0x05 => zero .volDec
  | 0x06 => b8 .setVolume
  | 0x07 => p16 .setEq
  | 0x08 => p16 .loopMode
  | 0x09 => b8 .selectSource
  | 0x0A => zero .standby
  | 0x0B => zero .normal
  | 0x0C => zero .reset
  | 0x0D => silent .resume
  | 0x0E => silent .pause
  | 0x0F => if fb = true then .playFolder msb lsb else .raw op fb msb lsb
  | 0x10 => if fb = true ∧ msb = c.volAdjMsb then .volumeAdjust (lsb - c.volAdjBase) else .raw op fb msb lsb
  | 0x11 => p16 .repeatPlay
  | 0x12 => p16 .playMp3Folder
  | 0x13 => p16 .insertAdvert
  | 0x14 => if fb = true then .playFolderLarge (msb >>> 4) (Machine.joinBytes (msb &&& 0x0F) lsb)
            else .raw op fb msb lsb
  | 0x15 => zero .stopAdvert
  | 0x16 => zero .stop
  | 0x17 => p16 .repeatFolder
  | 0x18 => zero .randomAll
  | 0x19 => p16 .repeatCurrent
  | 0x1A => p16 .setDac
  | _ => .raw op fb msb lsb

/-- A frame read as the catalog operation it is a frame of (R57, R69). The block itself never parses a frame
(R82). A frame whose operand a validation would reject is RAW's alone. -/
def decodeFrame (c : Config) (f : Frame) : Option Instr :=
  if Machine.frameWellFormed f then
    let fb := decide (f.fb = 1)
    let row := tableRow c f.opcode fb f.msb f.lsb
    if row.wellFormed c then some row else some (.raw f.opcode fb f.msb f.lsb)
  else none

/-- The frame rows of the table leave the checksum's bits free: a table word in which they are zero stands for
the frame whose checksum is right (no frame's checksum is zero, R77; log 14). -/
def withTableCksum (f : Frame) : Frame :=
  if f.ckMsb = 0 ∧ f.ckLsb = 0 then
    { f with ckMsb := Machine.hiByte (Machine.frameCksum f), ckLsb := Machine.loByte (Machine.frameCksum f) }
  else f

/-- A frame row's table word: the row it matches by mask and match (R69), its checksum right or left zero. -/
def decodeTableFrame (c : Config) (f : Frame) : Option Instr :=
  if Machine.frameWellFormed (withTableCksum f) then some (tableRow c f.opcode (decide (f.fb = 1)) f.msb f.lsb)
  else none

/-- What the opcode table's word stands for: up to 8 bits INIT_IDX, up to 32 bits a ControlMessage word, more
bits a frame as one 80-bit number (R56, R69; log 14). -/
def decodeTableWord (nbits w : Nat) : Option Instr :=
  if nbits ≤ 8 then
    if w < 4 then (decode (.initStep (BitVec.ofNat 2 w))).toOption else none
  else if nbits ≤ 32 then
    if w < 2 ^ 19 then (decode (.message (BitVec.ofNat 19 w))).toOption else none
  else if w < 2 ^ 80 then decodeTableFrame Config.cfgEx (Machine.frameOfBits (BitVec.ofNat 80 w))
  else none

end Sys2Proof
end

