-- ==== Sys2Proof/Machine/Fetch.lean ====
section
/-! DEFINITION. What the next step is: the agent whose turn it is (R8), and the instruction, if any, that this agent runs (R120, R123, R133). -/

namespace Sys2Proof.Machine

/-- What a turn comes to: an instruction of the opcode table and the state it runs on, or an agent's step that
is no instruction, already taken. -/
inductive Turn where
  | run (i : Instr) (t : State)
  | done (r : Host.Outcome State Fault Refusal)

/-- The action to take: the head of the schedule; with nothing scheduled, the block's own agents go on, the
clock while a pacing delay runs and the Dispatcher otherwise (DESIGN CHOICE, log 2). -/
def nextAction (s : State) : Action :=
  match s.sched with
  | a :: _ => a
  | [] => if s.st = .pace ∧ 0 < s.paceCnt then .tick else .dispatcher

/-- The input `rst` on the tick of the next step: 1 exactly when that step is the agent Reset's (R170). -/
def rstInput (s : State) : Bool := decide (nextAction s = .reset)

/-- The state in which the action is taken: it leaves the schedule, and nothing is observed yet. -/
def beginStep (s : State) : State := { s with sched := s.sched.tail, obs := [] }

/-- Initialization dispatch (R123): INIT_IDX selects the step. -/
def initTurn (s : State) : Turn :=
  match decode (.initStep s.initIdx) with
  | .instr i => .run i s
  | _ => .done (.fault .illegalInitIdx)

/-- Dequeue and dispatch (R133): the head word is dequeued and decoded; suspended on an empty queue. -/
def messageTurn (s : State) : Turn :=
  match qDeq s with
  | none => .done (.next (noStep s))
  | some (w, t) =>
    match decode (.message w) with
    | .instr i => .run i (observe (.dequeued w) t)
    | _ => .done (.fault .malformedInQueue)

/-- The Dispatcher is scheduled (R120): the table of its enabled steps. -/
def dispatcherTurn (s : State) : Turn :=
  match s.phase, s.st with
  | .halt, _ => .done (.next (noStep s))
  | .init, .idle => initTurn s
  | .run, .idle => messageTurn s
  | _, .pace => .done (if s.paceCnt = 0 then endPace s else .next (noStep s))
  | _, .send => .done (.next (noStep s))
  | _, .flush => .done (.next (noStep s))

/-- A catalog user's request (R60): selector decode comes first (R155 ii), `ERR_BAD_OP` for a reserved one (R116). -/
def catalogTurn (sel : BitVec 5) (a b : Word) (s : State) : Turn :=
  match decode (.request sel a b) with
  | .instr i => .run i s
  | _ => .done (showCatalog (.reject .badOp) s)

/-- One turn: the scheduled agent and its step. -/
def turn (s : State) : Turn :=
  let t := beginStep s
  match nextAction s with
  | .dispatcher => dispatcherTurn t
  | .sink c a => .done (.next (sinkAnswer c a t))
  | .tick => .done (.next (tickClock t))
  | .offer _ w => .done (.next (offerWord w t))
  | .catalog sel a b => catalogTurn sel a b t
  | .reset => .done (.next (resetStep t))

/-- A request that decodes to the instruction a frame row's word stands for, put first in the schedule. -/
def scheduleRequest (i : Instr) (s : State) : State :=
  match encode i with
  | .request sel a b => { s with sched := .catalog sel a b :: s.sched }
  | .message _ => s
  | .initStep _ => s

/-- An initialization step made the next one the Dispatcher takes: what R123 asks of PHASE, ST and INIT_IDX. -/
def placeInitStep (k : BitVec 2) (s : State) : State :=
  { s with phase := .init, st := .idle, initIdx := k, sched := .dispatcher :: s.sched }

/-- A ControlMessage word made the next one the Dispatcher takes: what R133 asks of PHASE, ST and Q. -/
def placeMessage (w : MsgWord) (s : State) : State :=
  { s with phase := .run, st := .idle, q := w :: s.q.tail, sched := .dispatcher :: s.sched }

/-- The word of an opcode-table row placed where the next step takes its instruction (log 3, log 14). -/
def placeTableWord (nbits w : Nat) (s : State) : State :=
  if nbits ≤ 8 then placeInitStep (BitVec.ofNat 2 w) s
  else if nbits ≤ 32 then placeMessage (BitVec.ofNat 19 w) s
  else
    match decodeTableWord nbits w with
    | some i => scheduleRequest i s
    | none => s

end Sys2Proof.Machine
end

