-- ==== Sys2Proof/Machine/Step.lean ====
section
/-! DEFINITION. One step of the machine, and where the host places an instruction for the next step. -/

namespace Sys2Proof.Machine

/-- One atomic step of one agent (R8). An ill-formed configuration is refused (R6). -/
def step (s : State) : Host.Outcome State Fault Refusal :=
  guarded s
    (match turn s with
     | .run i t => exec i t
     | .done r => r)

/-- `s` with an opcode-table row's word placed where `step` takes its next instruction (log 3). -/
def State.withFetchWord (s : State) (nbits w : Nat) : State := placeTableWord nbits w s

end Sys2Proof.Machine
end

