-- ==== Sys2Proof/Machine/Flags.lean ====
section
/-! DEFINITION. The status flags (R20), the codes of the sequencing state and of the errors (R13, R15, R151, R153), and the output ports (R24): pure functions of the state and, for the handshakes, of the inputs of the tick, none of them stored. -/

namespace Sys2Proof.Machine

/-- The 2-bit code of `PHASE` (R13). -/
def phaseCode : Phase → BitVec 2
  | .init => 0
  | .run => 1
  | .halt => 2

/-- The 2-bit code of `ST` (R15). -/
def stCode : St → BitVec 2
  | .idle => 0
  | .send => 1
  | .flush => 2
  | .pace => 3

/-- `cat_err` of a rejection (R151). -/
def rejectCode : RejectCode → BitVec 2
  | .sourceRange => 1
  | .gainRange => 2
  | .badOp => 3

/-- `err_kind` (R153): `TX_SEND` 0, `TX_FLUSH` 1. -/
def txKindCode : SinkCall → BitVec 1
  | .send => 0
  | .flush => 1

/-- `q_empty` (R20). -/
def qEmpty (s : State) : Bool := decide (s.q.length = 0)

/-- `q_full` (R20). -/
def qFull (s : State) : Bool := decide (s.q.length = s.cfg.qCap)

/-- `halted` (R20). -/
def halted (s : State) : Bool := decide (s.phase = .halt)

/-- `busy` (R20). -/
def busy (s : State) : Bool := decide (s.st ≠ .idle)

/-- `enq_ready` for the word offered, on a tick with `rst = 0` (R24, R33); 0 on a tick with `rst = 1` (R170). -/
def enqReady (s : State) (w : MsgWord) (rst : Bool) : Bool :=
  !rst && (!msgValid s.cfg w || decide (s.q.length < s.cfg.qCap))

/-- `tx_send_req`: 1 exactly while `ST = SEND` (R24), on a tick with `rst = 0`; 0 on a tick with `rst = 1` (R24,
R170: no request is raised). -/
def txSendReq (s : State) (rst : Bool) : Bool := !rst && decide (s.st = .send)

/-- `tx_frame` (R24): FRAME_REG, meaningful only while `tx_send_req = 1`. -/
def txFrame (s : State) : BitVec 80 := frameToBits s.frameReg

/-- `tx_flush_req`: 1 exactly while `ST = FLUSH` (R24), on a tick with `rst = 0`; 0 on a tick with `rst = 1` (R24,
R170: no request is raised). -/
def txFlushReq (s : State) (rst : Bool) : Bool := !rst && decide (s.st = .flush)

/-- `vol_o` (R24). -/
def volO (s : State) : Byte := s.vol

/-- `q_count_o` (R24), 4 bits. -/
def qCountO (s : State) : BitVec 4 := BitVec.ofNat 4 s.q.length

/-- The transport error among some events, if there is one. -/
def txErrorOf : List Event → Option SinkCall
  | [] => none
  | .txError c :: _ => some c
  | _ :: es => txErrorOf es

/-- `err_strobe` (R24, R153): the step just taken took a transport error. It belongs to the tick of that step; a
reset step takes none, so it is 0 on a tick with `rst = 1` (R170). -/
def errStrobe (s : State) : Bool := (txErrorOf s.obs).isSome

/-- `err_kind` (R24, R153): the kind that comes with `err_strobe = 1`; without the strobe the spec gives it no
meaning, and the model no value. -/
def errKind (s : State) : Option (BitVec 1) := (txErrorOf s.obs).map txKindCode

/-- `cat_ok` (R24). -/
def catOk : CatResult → Bool
  | .ok _ => true
  | .reject _ => false

/-- `cat_err` (R24, R151): 0 when `cat_ok = 1`. -/
def catErr : CatResult → BitVec 2
  | .ok _ => 0
  | .reject c => rejectCode c

/-- `cat_frame` (R24): all zero when `cat_ok = 0`. -/
def catFrame : CatResult → BitVec 80
  | .ok f => frameToBits f
  | .reject _ => 0

end Sys2Proof.Machine
end

