-- ==== Sys2Proof/Machine/CatalogTable.lean ====
section
/-! DEFINITION. The Command Catalog as the selector table of R60 to R63 states it, in unsigned numbers, with the closed form of the checksum (R77): the same function as the meanings R80 to R114, written from the table instead. Statements compare the two; the step does not use this one. -/

namespace Sys2Proof.Machine

/-- The parameter forms of R62, with the two constant operands of SLEEP and WAKE (R67). -/
inductive Form where
  | raw
  | zero
  | p16
  | b8
  | pair
  | pack
  | adj
  | sleepSource
  | cardSource
deriving DecidableEq, Repr

/-- The validation column of R60. -/
inductive Check where
  | none
  | source
  | gain
deriving DecidableEq, Repr

/-- A row of the table of R60: selector, parameter form, opcode byte, feedback flag, validation. The opcode and
the flag of RAW are operands and not the row's. -/
structure CatRow where
  sel    : Nat
  form   : Form
  opcode : Nat
  fb     : Nat
  check  : Check
deriving DecidableEq, Repr

/-- The table of R60. -/
def catRows : List CatRow := [
  ⟨0x00, .raw, 0x00, 0, .none⟩,
  ⟨0x01, .zero, 0x01, 1, .none⟩,
  ⟨0x02, .zero, 0x02, 1, .none⟩,
  ⟨0x03, .p16, 0x03, 1, .none⟩,
  ⟨0x04, .zero, 0x04, 1, .none⟩,
  ⟨0x05, .zero, 0x05, 1, .none⟩,
  ⟨0x06, .b8, 0x06, 1, .none⟩,
  ⟨0x07, .p16, 0x07, 1, .none⟩,
  ⟨0x08, .p16, 0x08, 1, .none⟩,
  ⟨0x09, .b8, 0x09, 1, .source⟩,
  ⟨0x0A, .zero, 0x0A, 1, .none⟩,
  ⟨0x0B, .zero, 0x0B, 1, .none⟩,
  ⟨0x0C, .zero, 0x0C, 1, .none⟩,
  ⟨0x0D, .zero, 0x0D, 0, .none⟩,
  ⟨0x0E, .zero, 0x0E, 0, .none⟩,
  ⟨0x0F, .pair, 0x0F, 1, .none⟩,
  ⟨0x10, .adj, 0x10, 1, .gain⟩,
  ⟨0x11, .p16, 0x11, 1, .none⟩,
  ⟨0x12, .p16, 0x12, 1, .none⟩,
  ⟨0x13, .p16, 0x13, 1, .none⟩,
  ⟨0x14, .pack, 0x14, 1, .none⟩,
  ⟨0x15, .zero, 0x15, 1, .none⟩,
  ⟨0x16, .zero, 0x16, 1, .none⟩,
  ⟨0x17, .p16, 0x17, 1, .none⟩,
  ⟨0x18, .zero, 0x18, 1, .none⟩,
  ⟨0x19, .p16, 0x19, 1, .none⟩,
  ⟨0x1A, .p16, 0x1A, 1, .none⟩,
  ⟨0x1B, .sleepSource, 0x09, 1, .source⟩,
  ⟨0x1C, .cardSource, 0x09, 1, .source⟩]

/-- The two parameter bytes of a form (R62) from the operand ports. -/
def formBytes (c : Config) (form : Form) (a b : Nat) : Nat × Nat :=
  match form with
  | .raw => (a / 256, a % 256)
  | .zero => (0, 0)
  | .p16 => (a / 256, a % 256)
  | .b8 => (0, a % 256)
  | .pair => (a % 256, b % 256)
  | .pack => (a % 16 * 16 + b / 256 % 16, b % 256)
  | .adj => (c.volAdjMsb.toNat, c.volAdjBase.toNat + a % 256)
  | .sleepSource => (0, c.srcSleep.toNat)
  | .cardSource => (0, c.srcCard.toNat)

/-- The opcode byte and the feedback flag of a row (R61 for RAW, R63 for the others). -/
def rowOpcode (r : CatRow) (b : Nat) : Nat × Nat :=
  match r.form with
  | .raw => (b % 256, b / 256 % 2)
  | _ => (r.opcode, r.fb)

/-- The bytes of a frame in transmission order, the checksum in the closed form of R77. -/
def closedFrame (op fb msb lsb : Nat) : List Nat :=
  let ck := 0xFEFB - op - fb - msb - lsb
  [0x7E, 0xFF, 0x06, op, fb, msb, lsb, ck / 256, ck % 256, 0xEF]

/-- What the catalog port shows: `cat_ok`, `cat_err`, and the bytes of `cat_frame` (R24). -/
structure CatPort where
  ok    : Bool
  err   : Nat
  frame : List Nat
deriving DecidableEq, Repr

/-- The port on a rejection (R91): `cat_ok = 0`, the code, `cat_frame = 0`. -/
def rejectedPort (code : Nat) : CatPort := ⟨false, code, List.replicate 10 0⟩

/-- The validation of R85 and R88 on the low parameter byte or the gain, and its code (R151). -/
def checkCode (check : Check) (lsb gain : Nat) : Nat :=
  match check with
  | .none => 0
  | .source => if 1 ≤ lsb ∧ lsb ≤ 5 then 0 else 1
  | .gain => if gain ≤ 31 then 0 else 2

/-- `catalog(sel, a, b)` by the table (R60). A selector without a row is rejected with code 3 (R116). -/
def catalogByTable (c : Config) (sel a b : Nat) : CatPort :=
  match catRows.find? (fun r => r.sel == sel) with
  | none => rejectedPort 3
  | some r =>
    let p := formBytes c r.form a b
    let code := checkCode r.check p.2 (a % 256)
    let o := rowOpcode r b
    if code = 0 then ⟨true, 0, closedFrame o.1 o.2 p.1 p.2⟩ else rejectedPort code

/-- A catalog result as the port shows it. -/
def portOf (r : CatResult) : CatPort :=
  match r with
  | .ok f => ⟨true, 0, (frameBytes f).map BitVec.toNat⟩
  | .reject code => rejectedPort (rejectCode code).toNat

end Sys2Proof.Machine
end

