-- ==== Sys2Proof/Safety.lean ====
section
/-! DEFINITION. The terms in which claims speak of states and runs: the invariant of R21, runs and the events they show (R9), and the rules of R57, R68 and R141 over lists of events. -/

namespace Sys2Proof.Safety

open Sys2Proof.Machine

/-! ### States -/

/-- The invariant of R21, clauses (i) to (viii), of a machine whose configuration is well-formed (R6). Clause
(iii) holds by the type of PHASE. -/
structure Inv (s : State) : Prop where
  configOk      : s.cfg.wellFormed = true
  queueBounded  : s.q.length ≤ s.cfg.qCap
  queueValid    : ∀ w ∈ s.q, msgValid s.cfg w = true
  initIdxLegal  : s.initIdx.toNat ≤ 2
  haltIdle      : s.phase = .halt → s.st = .idle
  pacingOnly    : s.paceCnt ≠ 0 → s.st = .pace
  paceBounded   : s.paceCnt ≤ s.cfg.paceTicks
  frameInFlight : s.st = .send → frameWellFormed s.frameReg = true

/-- The fields the spec gives the machine agree, FRAME_REG only while it means something (R17: "no claim may
depend on it outside `ST = SEND`"). -/
def SameBlock (s t : State) : Prop :=
  s.vol = t.vol ∧ s.phase = t.phase ∧ s.initIdx = t.initIdx ∧ s.st = t.st ∧ s.paceCnt = t.paceCnt ∧
    s.q = t.q ∧ s.cfg = t.cfg ∧ (s.st = .send → s.frameReg = t.frameReg)

/-- The instruction is one of the 29 catalog operations. -/
def isCatalogOp (i : Instr) : Bool :=
  match encode i with
  | .request _ _ _ => true
  | .message _ => false
  | .initStep _ => false

/-- The enabling condition of an instruction: none for a catalog operation, that of R133 for a message, that of
R123 for an initialization step. The queue is left to step, which dequeues (log 22). -/
def Enabled (i : Instr) (s : State) : Prop :=
  match encode i with
  | .request _ _ _ => True
  | .message _ => s.phase = .run ∧ s.st = .idle
  | .initStep k => s.phase = .init ∧ s.st = .idle ∧ s.initIdx = k

/-- The catalog request `(sel, a, b)` is the instruction `i`, and evaluating it completes: the port shows `r`, a
result that depends on the configuration alone, and nothing else of the state changes (R60). -/
def CatalogShows (sel : BitVec 5) (a b : Word) (i : Instr) (r : Config → CatResult) : Prop :=
  decode (.request sel a b) = .instr i ∧
    ∀ s : State, s.cfg.wellFormed = true → exec i s = .next { s with obs := s.obs ++ [.catalog (r s.cfg)] }

/-- The state after `start_send(f)` as R127 states it: FRAME_REG and ST are written, `send(f)` is called. -/
def afterSend (s : State) (f : Frame) : State :=
  { s with frameReg := f, st := .send, obs := s.obs ++ [.send f] }

/-! ### Runs -/

/-- `n` steps from `s`: the last state and everything the run showed, in order (R9). None where a step stops. -/
def runShows : Nat → State → Option (State × List Event)
  | 0, s => some (s, [])
  | n + 1, s =>
    match step s with
    | .next t =>
      match runShows n t with
      | some (u, es) => some (u, t.obs ++ es)
      | none => none
    | .fault _ => none
    | .refused _ => none

/-- The frames handed to `send`, in order. -/
def sentFrames (es : List Event) : List Frame :=
  es.filterMap fun e => match e with
    | .send f => some f
    | _ => none

/-- The words enqueued, in order. -/
def enqueuedWords (es : List Event) : List MsgWord :=
  es.filterMap fun e => match e with
    | .enqueued w => some w
    | _ => none

/-- The words dequeued, in order. -/
def dequeuedWords (es : List Event) : List MsgWord :=
  es.filterMap fun e => match e with
    | .dequeued w => some w
    | _ => none

/-- The number of ticks. -/
def tickCount (es : List Event) : Nat := es.countP fun e => decide (e = .tick)

/-- The events end the frame in flight: the flush was answered, or the send failed (R141 iii). -/
def endsFrame (es : List Event) : Bool :=
  es.any fun e => decide (e = .answered .flush .ok ∨ e = .answered .flush .err ∨ e = .answered .send .err)

/-- No reset step was taken. -/
def noReset (es : List Event) : Bool := es.all fun e => decide (e ≠ .reset)

/-- The number of words with the given tag. -/
def tagCount (tag : BitVec 3) (ws : List MsgWord) : Nat := ws.countP fun w => decide (msgTag w = tag)

/-! ### From messages to frames -/

/-- `VOL` after the Dispatcher acted on the message (R68, state change). -/
def volAfter (vol : Byte) (w : MsgWord) : Byte :=
  if msgTag w = 4 then vol + 1 else if msgTag w = 5 then vol - 1 else vol

/-- The frame of a valid message, bytes 3 to 6 as the table of R68 gives them. -/
def messageFrame (vol : Byte) (w : MsgWord) : Frame :=
  if msgTag w = 0 then encodeFrame 0x03 true ⟨hiByte (msgId w), loByte (msgId w)⟩
  else if msgTag w = 1 then encodeFrame 0x0E false ⟨0, 0⟩
  else if msgTag w = 2 then encodeFrame 0x0D false ⟨0, 0⟩
  else if msgTag w = 3 then encodeFrame 0x16 true ⟨0, 0⟩
  else encodeFrame 0x06 true ⟨0, volAfter vol w⟩

/-- The frames of a list of messages taken one after the other from volume `vol`. -/
def messageFrames (vol : Byte) : List MsgWord → List Frame
  | [] => []
  | w :: ws => messageFrame vol w :: messageFrames (volAfter vol w) ws

/-- The three frames of the initialization sequence (R124 to R126, R68). -/
def initFrames (c : Config) : List Frame :=
  [encodeFrame 0x09 true ⟨0, c.initSource⟩,
   encodeFrame 0x06 true ⟨0, c.volDefault⟩,
   encodeFrame 0x03 true ⟨hiByte c.welcomeTrack, loByte c.welcomeTrack⟩]

/-- One frame from its Dispatcher step to the end of its pacing delay, with a Sink that answers ok and a clock
that ticks no more than it must (R174). -/
def cleanRound (c : Config) : List Action :=
  [.dispatcher, .sink .send .ok, .sink .flush .ok] ++ List.replicate c.paceTicks .tick ++ [.dispatcher]

/-- What such a round shows after its Dispatcher step. -/
def cleanRoundShows (c : Config) : List Event :=
  [.answered .send .ok, .flush, .answered .flush .ok] ++ List.replicate c.paceTicks .tick ++ [.endPace]

/-! ### The Sink's protocol -/

/-- Where the protocol of the two calls stands (R43, R141 ii). -/
inductive SinkState where
  | free
  | sendPending
  | sendOk
  | flushPending
deriving DecidableEq, Repr

/-- One event of the protocol: none where R43 forbids it there. After `send_ok` the flush is the very next
event; an answer comes only to the pending call; `send` only when no call is pending; an abandoned call is
forgotten at a reset (R173). -/
def sinkStep : SinkState → Event → Option SinkState
  | _, .reset => some .free
  | .free, .send _ => some .sendPending
  | .sendPending, .answered .send .ok => some .sendOk
  | .sendPending, .answered .send .err => some .free
  | .sendOk, .flush => some .flushPending
  | .sendOk, _ => none
  | .flushPending, .answered .flush .ok => some .free
  | .flushPending, .answered .flush .err => some .free
  | _, .send _ => none
  | _, .flush => none
  | _, .answered _ _ => none
  | p, _ => some p

/-- The events keep the protocol from `p` on. -/
def sinkOrderly (p : SinkState) : List Event → Bool
  | [] => true
  | e :: es =>
    match sinkStep p e with
    | some p' => sinkOrderly p' es
    | none => false

/-- Where a state stands in the protocol (R19: a pending call is exactly `ST`). -/
def sinkStateOf (s : State) : SinkState :=
  match pendingCall s with
  | some .send => .sendPending
  | some .flush => .flushPending
  | none => .free

end Sys2Proof.Safety
end

