-- ==== Sys2Proof/Certificates/Slice0/Obligations.lean ====
section
/-! DEFINITION. The statements about the model, one definition each; OBLIGATIONS.json lists them. -/

open Sys2Proof Sys2Proof.Machine Sys2Proof.Safety

/-! ### Encodings -/

/-- A few words written out from R58, R60, R61, R116 and R123 decode to what they stand for. -/
def Obligations.SpecWordsDecode : Prop :=
  decode (.request 0x00 0x1234 0x0056) = .instr (.raw 0x56 false 0x12 0x34) ∧
  decode (.request 0x03 0x1234 0x0000) = .instr (.playTrack 0x1234) ∧
  decode (.request 0x0F 0xAB02 0xCD0A) = .instr (.playFolder 0x02 0x0A) ∧
  decode (.request 0x14 0x0012 0x1345) = .instr (.playFolderLarge 0x12 0x1345) ∧
  decode (.request 0x1D 0x0000 0x0000) = .reservedSelector ∧
  decode (.message 0x00005) = .instr (.msgTrack 5) ∧
  decode (.message 0x1BEEF) = .instr .msgPause ∧
  decode (.message 0x60000) = .malformedTag ∧
  decode (.initStep 1) = .instr .init1

/-- R58, R60, R61: no operand of an instruction is lost by its encoding. -/
def Obligations.DecodeOfEncodeIsIdentity : Prop :=
  ∀ i : Instr, decode (encode i) = .instr i

/-- R59, R61: what decodes is encoded again up to the bits the spec calls ignored. -/
def Obligations.EncodeOfDecodeIsCanonical : Prop :=
  ∀ (e : Encoding) (i : Instr), decode e = .instr i → encode i = e.canonical

/-- R61, R59, U12: the ignored bits of the operand ports and of the identifier decide nothing. -/
def Obligations.IgnoredBitsDoNotMatter : Prop :=
  ∀ e : Encoding, decode e.canonical = decode e

/-- R56: the 80-bit vector and the ten bytes are two spellings of one frame, each byte in the place the table of
R56 gives it. -/
def Obligations.FrameVectorRoundTrip : Prop :=
  (∀ f : Frame, frameOfBits (frameToBits f) = f) ∧ (∀ v : BitVec 80, frameToBits (frameOfBits v) = v) ∧
    ∀ f : Frame, let v := frameToBits f
      v.extractLsb' 72 8 = f.start ∧ v.extractLsb' 64 8 = f.version ∧ v.extractLsb' 56 8 = f.len ∧
      v.extractLsb' 48 8 = f.opcode ∧ v.extractLsb' 40 8 = f.fb ∧ v.extractLsb' 32 8 = f.msb ∧
      v.extractLsb' 24 8 = f.lsb ∧ v.extractLsb' 16 8 = f.ckMsb ∧ v.extractLsb' 8 8 = f.ckLsb ∧
      v.extractLsb' 0 8 = f.stop

/-- R57, R69: every well-formed frame is the frame of the catalog operation it decodes to. -/
def Obligations.WellFormedFramesAreCatalogFrames : Prop :=
  ∀ (c : Config) (f : Frame), c.wellFormed = true → frameWellFormed f = true →
    ∃ i, decodeFrame c f = some i ∧ isCatalogOp i = true ∧
      ∀ s : State, s.cfg = c → exec i s = .next { s with obs := s.obs ++ [.catalog (.ok f)] }

/-! ### The Frame Codec -/

/-- R75: the ten bytes of `encode`. -/
def Obligations.EncodeYieldsTheTenBytes : Prop :=
  ∀ (op : Byte) (fb : Bool) (msb lsb : Byte),
    frameBytes (encodeFrame op fb ⟨msb, lsb⟩) =
      [0x7E, 0xFF, 0x06, op, if fb then 0x01 else 0x00, msb, lsb,
        (cksum 0xFF 0x06 op (if fb then 0x01 else 0x00) msb lsb).extractLsb' 8 8,
        (cksum 0xFF 0x06 op (if fb then 0x01 else 0x00) msb lsb).extractLsb' 0 8, 0xEF] ∧
    encodeFrame 0x03 true ⟨0x00, 0x01⟩ = ⟨0x7E, 0xFF, 0x06, 0x03, 0x01, 0x00, 0x01, 0xFE, 0xF6, 0xEF⟩

/-- R76: six subtractions of zero-extended bytes from zero modulo 2^16, which is zero minus the sum, in whatever
order; a frame carries the result most significant byte first. -/
def Obligations.ChecksumIsTheNegatedSum : Prop :=
  ∀ b1 b2 b3 b4 b5 b6 : Byte,
    cksum b1 b2 b3 b4 b5 b6 =
      0 - b1.setWidth 16 - b2.setWidth 16 - b3.setWidth 16 - b4.setWidth 16 - b5.setWidth 16 - b6.setWidth 16 ∧
    ((cksum b1 b2 b3 b4 b5 b6).toNat : Int) =
      (0 - ((b1.toNat + b2.toNat + b3.toNat + b4.toNat + b5.toNat + b6.toNat : Nat) : Int)) % 65536 ∧
    (∀ l : List Byte, l.Perm [b1, b2, b3, b4, b5, b6] → l.foldl cksumStep 0 = cksum b1 b2 b3 b4 b5 b6) ∧
    ∀ (op : Byte) (fb : Bool) (p : Param), let f := encodeFrame op fb p
      f.ckMsb ++ f.ckLsb = cksum 0xFF 0x06 op (if fb then 0x01 else 0x00) p.msb p.lsb

/-- R77: the checksum's closed form in ordinary subtraction, and its range. -/
def Obligations.ChecksumClosedForm : Prop :=
  ∀ (op : Byte) (fb : Bool) (msb lsb : Byte),
    (frameBytes (encodeFrame op fb ⟨msb, lsb⟩)).map BitVec.toNat =
      closedFrame op.toNat (if fb then 1 else 0) msb.toNat lsb.toNat ∧
    0xFBFD ≤ (frameCksum (encodeFrame op fb ⟨msb, lsb⟩)).toNat ∧
    (frameCksum (encodeFrame op fb ⟨msb, lsb⟩)).toNat ≤ 0xFEFB ∧
    (encodeFrame op fb ⟨msb, lsb⟩).ckMsb ∈ ([0xFB, 0xFC, 0xFD, 0xFE] : List Byte)

/-- R78: the checksum of bytes 1 to 6 of an encoded frame is bytes 7 and 8, and the seven summands add to zero. -/
def Obligations.ChecksumProperty : Prop :=
  ∀ (op : Byte) (fb : Bool) (msb lsb : Byte), let f := encodeFrame op fb ⟨msb, lsb⟩
    f.ckMsb ++ f.ckLsb = cksum f.version f.len f.opcode f.fb f.msb f.lsb ∧
    f.version.setWidth 16 + f.len.setWidth 16 + f.opcode.setWidth 16 + f.fb.setWidth 16 + f.msb.setWidth 16 +
      f.lsb.setWidth 16 + (f.ckMsb ++ f.ckLsb) = (0 : Word) ∧
    frameWellFormed f = true

/-- R57, R79: a well-formed frame is determined by its four free bytes. -/
def Obligations.FreeBytesDetermineTheFrame : Prop :=
  ∀ f g : Frame, frameWellFormed f = true → frameWellFormed g = true →
    f.opcode = g.opcode → f.fb = g.fb → f.msb = g.msb → f.lsb = g.lsb →
    f = g ∧ f = encodeFrame f.opcode (decide (f.fb = 1)) ⟨f.msb, f.lsb⟩

/-! ### The catalog -/

/-- R95 to R98, R101 to R105, R109, R110, R112: the twelve constant frames, whatever the operand ports hold. -/
def Obligations.ConstantOperationsShowTheirFrame : Prop :=
  ∀ a b : Word,
    CatalogShows 0x01 a b .next (fun _ => .ok ⟨0x7E, 0xFF, 0x06, 0x01, 0x01, 0x00, 0x00, 0xFE, 0xF9, 0xEF⟩) ∧
    CatalogShows 0x02 a b .prev (fun _ => .ok ⟨0x7E, 0xFF, 0x06, 0x02, 0x01, 0x00, 0x00, 0xFE, 0xF8, 0xEF⟩) ∧
    CatalogShows 0x04 a b .volInc (fun _ => .ok ⟨0x7E, 0xFF, 0x06, 0x04, 0x01, 0x00, 0x00, 0xFE, 0xF6, 0xEF⟩) ∧
    CatalogShows 0x05 a b .volDec (fun _ => .ok ⟨0x7E, 0xFF, 0x06, 0x05, 0x01, 0x00, 0x00, 0xFE, 0xF5, 0xEF⟩) ∧
    CatalogShows 0x0A a b .standby (fun _ => .ok ⟨0x7E, 0xFF, 0x06, 0x0A, 0x01, 0x00, 0x00, 0xFE, 0xF0, 0xEF⟩) ∧
    CatalogShows 0x0B a b .normal (fun _ => .ok ⟨0x7E, 0xFF, 0x06, 0x0B, 0x01, 0x00, 0x00, 0xFE, 0xEF, 0xEF⟩) ∧
    CatalogShows 0x0C a b .reset (fun _ => .ok ⟨0x7E, 0xFF, 0x06, 0x0C, 0x01, 0x00, 0x00, 0xFE, 0xEE, 0xEF⟩) ∧
    CatalogShows 0x0D a b .resume (fun _ => .ok ⟨0x7E, 0xFF, 0x06, 0x0D, 0x00, 0x00, 0x00, 0xFE, 0xEE, 0xEF⟩) ∧
    CatalogShows 0x0E a b .pause (fun _ => .ok ⟨0x7E, 0xFF, 0x06, 0x0E, 0x00, 0x00, 0x00, 0xFE, 0xED, 0xEF⟩) ∧
    CatalogShows 0x15 a b .stopAdvert (fun _ => .ok ⟨0x7E, 0xFF, 0x06, 0x15, 0x01, 0x00, 0x00, 0xFE, 0xE5, 0xEF⟩) ∧
    CatalogShows 0x16 a b .stop (fun _ => .ok ⟨0x7E, 0xFF, 0x06, 0x16, 0x01, 0x00, 0x00, 0xFE, 0xE4, 0xEF⟩) ∧
    CatalogShows 0x18 a b .randomAll (fun _ => .ok ⟨0x7E, 0xFF, 0x06, 0x18, 0x01, 0x00, 0x00, 0xFE, 0xE2, 0xEF⟩)

/-- R83, R99, R100, R106, R107, R108, R111, R113, R114: a 16-bit operand split big-endian, none rejected. -/
def Obligations.NumericOperationsShowTheirFrame : Prop :=
  ∀ a b : Word, let p : Param := ⟨a.extractLsb' 8 8, a.extractLsb' 0 8⟩
    CatalogShows 0x03 a b (.playTrack a) (fun _ => .ok (encodeFrame 0x03 true p)) ∧
    CatalogShows 0x07 a b (.setEq a) (fun _ => .ok (encodeFrame 0x07 true p)) ∧
    CatalogShows 0x08 a b (.loopMode a) (fun _ => .ok (encodeFrame 0x08 true p)) ∧
    CatalogShows 0x11 a b (.repeatPlay a) (fun _ => .ok (encodeFrame 0x11 true p)) ∧
    CatalogShows 0x12 a b (.playMp3Folder a) (fun _ => .ok (encodeFrame 0x12 true p)) ∧
    CatalogShows 0x13 a b (.insertAdvert a) (fun _ => .ok (encodeFrame 0x13 true p)) ∧
    CatalogShows 0x17 a b (.repeatFolder a) (fun _ => .ok (encodeFrame 0x17 true p)) ∧
    CatalogShows 0x19 a b (.repeatCurrent a) (fun _ => .ok (encodeFrame 0x19 true p)) ∧
    CatalogShows 0x1A a b (.setDac a) (fun _ => .ok (encodeFrame 0x1A true p))

/-- R80, R84, R86: RAW is the codec itself; SET_VOLUME is not validated; PLAY_FOLDER is a pair of bytes. -/
def Obligations.RawSetVolumePlayFolderShowTheirFrame : Prop :=
  ∀ a b : Word,
    CatalogShows 0x00 a b (.raw (b.extractLsb' 0 8) (b.getLsbD 8) (a.extractLsb' 8 8) (a.extractLsb' 0 8))
      (fun _ => .ok (encodeFrame (b.extractLsb' 0 8) (b.getLsbD 8) ⟨a.extractLsb' 8 8, a.extractLsb' 0 8⟩)) ∧
    CatalogShows 0x06 a b (.setVolume (a.extractLsb' 0 8))
      (fun _ => .ok (encodeFrame 0x06 true ⟨0x00, a.extractLsb' 0 8⟩)) ∧
    CatalogShows 0x0F a b (.playFolder (a.extractLsb' 0 8) (b.extractLsb' 0 8))
      (fun _ => .ok (encodeFrame 0x0F true ⟨a.extractLsb' 0 8, b.extractLsb' 0 8⟩))

/-- R87: the folder's low four bits and the track's low twelve bits are packed; the rest is lost. -/
def Obligations.PlayFolderLargePacks : Prop :=
  ∀ a b : Word, ∃ q : Word,
    q = ((a.extractLsb' 0 8).setWidth 16 <<< 12) ||| (b &&& 0x0FFF) ∧
    q.toNat = a.toNat % 16 * 4096 + b.toNat % 4096 ∧
    CatalogShows 0x14 a b (.playFolderLarge (a.extractLsb' 0 8) b)
      (fun _ => .ok (encodeFrame 0x14 true ⟨q.extractLsb' 8 8, q.extractLsb' 0 8⟩))

/-- R85: SELECT_SOURCE yields a frame exactly for the sources 1 to 5 and is rejected with code 1 otherwise. -/
def Obligations.SelectSourceValidates : Prop :=
  ∀ a b : Word, let src := a.extractLsb' 0 8
    (1 ≤ a.toNat % 256 ∧ a.toNat % 256 ≤ 5 →
      CatalogShows 0x09 a b (.selectSource src) (fun _ => .ok (encodeFrame 0x09 true ⟨0x00, src⟩))) ∧
    (a.toNat % 256 < 1 ∨ 5 < a.toNat % 256 →
      CatalogShows 0x09 a b (.selectSource src) (fun _ => .reject .sourceRange)) ∧
    catOk (.reject .sourceRange) = false ∧ catErr (.reject .sourceRange) = 1 ∧ catFrame (.reject .sourceRange) = 0

/-- R88: VOLUME_ADJUST yields the base constant plus the gain, which does not wrap, or is rejected with code 2. -/
def Obligations.VolumeAdjustValidates : Prop :=
  ∀ a b : Word, let g := a.extractLsb' 0 8
    (a.toNat % 256 ≤ 31 →
      CatalogShows 0x10 a b (.volumeAdjust g)
        (fun c => .ok (encodeFrame 0x10 true ⟨c.volAdjMsb, c.volAdjBase + g⟩)) ∧
      ∀ c : Config, c.wellFormed = true → (c.volAdjBase + g).toNat = c.volAdjBase.toNat + a.toNat % 256) ∧
    (31 < a.toNat % 256 →
      CatalogShows 0x10 a b (.volumeAdjust g) (fun _ => .reject .gainRange)) ∧
    catOk (.reject .gainRange) = false ∧ catErr (.reject .gainRange) = 2 ∧ catFrame (.reject .gainRange) = 0

/-- R89, R90: SLEEP and WAKE are SELECT_SOURCE with the two constants and are never rejected. -/
def Obligations.SleepAndWakeSelectTheirSource : Prop :=
  ∀ a b : Word,
    CatalogShows 0x1B a b .sleep (fun c => .ok (encodeFrame 0x09 true ⟨0x00, c.srcSleep⟩)) ∧
    CatalogShows 0x1C a b .wake (fun c => .ok (encodeFrame 0x09 true ⟨0x00, c.srcCard⟩)) ∧
    ∀ s : State, exec .sleep s = exec (.selectSource s.cfg.srcSleep) s ∧
      exec .wake s = exec (.selectSource s.cfg.srcCard) s

/-- R116: the reserved selectors are rejected with ERR_BAD_OP, for every `a` and `b`. -/
def Obligations.ReservedSelectorsAreRejected : Prop :=
  ∀ (s : State) (sel : BitVec 5) (a b : Word) (rest : List Action),
    s.cfg.wellFormed = true → s.sched = .catalog sel a b :: rest → 0x1D ≤ sel.toNat →
    step s = .next { s with sched := rest, obs := [.catalog (.reject .badOp)] } ∧
    catOk (.reject .badOp) = false ∧ catErr (.reject .badOp) = 3 ∧ catFrame (.reject .badOp) = 0

/-- R60 to R63: the step at the catalog port is the selector table of R60, for every selector and operand, with
the checksum in the closed form of R77; nothing else of the block changes. -/
def Obligations.CatalogPortFollowsTheTable : Prop :=
  ∀ (s : State) (sel : BitVec 5) (a b : Word) (rest : List Action),
    s.cfg.wellFormed = true → s.sched = .catalog sel a b :: rest →
    ∃ r, step s = .next { s with sched := rest, obs := [.catalog r] } ∧
      portOf r = catalogByTable s.cfg sel.toNat a.toNat b.toNat

/-- R60: a catalog operation is a pure function of its operands and CFG; it writes no register. -/
def Obligations.CatalogOperationsArePure : Prop :=
  ∀ i : Instr, isCatalogOp i = true →
    ∃ r : Config → CatResult, ∀ s : State, s.cfg.wellFormed = true →
      exec i s = .next { s with obs := s.obs ++ [.catalog (r s.cfg)] }

/-- R91, R150, R57: a catalog operation is rejected exactly for an operand its validation excludes, and every
frame it yields is well-formed. -/
def Obligations.CatalogRejectsExactlyInvalidOperands : Prop :=
  ∀ (i : Instr) (s : State) (r : CatResult), isCatalogOp i = true → s.cfg.wellFormed = true →
    exec i s = .next { s with obs := s.obs ++ [.catalog r] } →
    ((∃ c, r = .reject c) ↔ i.wellFormed s.cfg = false) ∧ ∀ f, r = .ok f → frameWellFormed f = true

/-- R46, R60: a catalog evaluation put between two other steps changes nothing of what follows. -/
def Obligations.CatalogUsersDisturbNothing : Prop :=
  ∀ (s t : State) (sel : BitVec 5) (a b : Word) (rest : List Action),
    s.sched = .catalog sel a b :: rest → step s = .next t → step t = step { s with sched := rest }

/-! ### Steps and instructions -/

/-- A step runs the instruction its agent fetches: the request at the catalog port (R60), the dequeued head of the
queue (R133), the initialization step INIT_IDX selects (R123). Around it the step takes the action off the
schedule and starts with nothing observed. For a message it also dequeues: R133 has one atomic step, and that the
dequeue is `step`'s part of it while `exec` acts on the state after the dequeue is the model's choice (log 22). -/
def Obligations.StepRunsTheDecodedInstruction : Prop :=
  (∀ (s : State) (sel : BitVec 5) (a b : Word) (rest : List Action) (i : Instr),
    s.cfg.wellFormed = true → s.sched = .catalog sel a b :: rest → decode (.request sel a b) = .instr i →
    step s = exec i { s with sched := rest, obs := [] }) ∧
  (∀ (s : State) (w : MsgWord) (ws : List MsgWord) (i : Instr),
    s.cfg.wellFormed = true → nextAction s = .dispatcher → s.phase = .run → s.st = .idle → s.q = w :: ws →
    decode (.message w) = .instr i →
    step s = exec i { s with sched := s.sched.tail, q := ws, obs := [.dequeued w] }) ∧
  (∀ (s : State) (i : Instr),
    s.cfg.wellFormed = true → nextAction s = .dispatcher → s.phase = .init → s.st = .idle →
    decode (.initStep s.initIdx) = .instr i →
    step s = exec i { s with sched := s.sched.tail, obs := [] })

/-- R6: the well-formed configurations, and the refusal of every other one by the step and by every meaning. -/
def Obligations.IllFormedConfigurationIsRefused : Prop :=
  ∀ s : State,
    (s.cfg.wellFormed = true ↔
      s.cfg.qCap = 10 ∧ s.cfg.nTracks ≤ 65535 ∧ (1 ≤ s.cfg.initSource.toNat ∧ s.cfg.initSource.toNat ≤ 5) ∧
      (1 ≤ s.cfg.srcSleep.toNat ∧ s.cfg.srcSleep.toNat ≤ 5) ∧ (1 ≤ s.cfg.srcCard.toNat ∧ s.cfg.srcCard.toNat ≤ 5) ∧
      s.cfg.volAdjBase.toNat ≤ 224) ∧
    (s.cfg.wellFormed = false →
      step s = .refused .illFormedConfig ∧ ∀ i : Instr, exec i s = .refused .illFormedConfig)

/-! ### Initialization steps and messages -/

/-- R124, R125, R126: each initialization step, in its turn, sends its frame and writes nothing else. -/
def Obligations.InitStepsSendTheirFrame : Prop :=
  ∀ s : State, s.cfg.wellFormed = true → s.phase = .init → s.st = .idle →
    (s.initIdx = 0 → exec .init0 s = .next (afterSend s (encodeFrame 0x09 true ⟨0x00, s.cfg.initSource⟩))) ∧
    (s.initIdx = 1 → exec .init1 s = .next (afterSend s (encodeFrame 0x06 true ⟨0x00, s.vol⟩))) ∧
    (s.initIdx = 2 → exec .init2 s = .next (afterSend s
      (encodeFrame 0x03 true ⟨s.cfg.welcomeTrack.extractLsb' 8 8, s.cfg.welcomeTrack.extractLsb' 0 8⟩)))

/-- R134, R135, R136, R139: PAUSE, RESUME, STOP and TRACK send their frame and write nothing else. That exec leaves
Q as it is, whatever it holds, is the model's choice (DESIGN CHOICE, log 22): step has taken the word off Q in the
same step (R133), which DequeueAndDispatch states whole. -/
def Obligations.TransportAndTrackMessagesSendTheirFrame : Prop :=
  ∀ s : State, s.cfg.wellFormed = true → s.phase = .run → s.st = .idle →
    exec .msgPause s =
      .next (afterSend s ⟨0x7E, 0xFF, 0x06, 0x0E, 0x00, 0x00, 0x00, 0xFE, 0xED, 0xEF⟩) ∧
    exec .msgResume s =
      .next (afterSend s ⟨0x7E, 0xFF, 0x06, 0x0D, 0x00, 0x00, 0x00, 0xFE, 0xEE, 0xEF⟩) ∧
    exec .msgStop s =
      .next (afterSend s ⟨0x7E, 0xFF, 0x06, 0x16, 0x01, 0x00, 0x00, 0xFE, 0xE4, 0xEF⟩) ∧
    ∀ id : Word, exec (.msgTrack id) s =
      .next (afterSend s (encodeFrame 0x03 true ⟨id.extractLsb' 8 8, id.extractLsb' 0 8⟩))

/-- R137, R138: VOLUP and VOLDOWN step VOL modulo 256, without a clamp, then send SET_VOLUME with the new value; the
wrap is kept where U1 would let a model fault (log 10). That exec leaves Q as it is, whatever it holds, is the model's
choice (DESIGN CHOICE, log 22): step has taken the word off Q in the same step (R133), which DequeueAndDispatch states
whole. -/
def Obligations.VolumeMessagesStepThenSend : Prop :=
  ∀ s : State, s.cfg.wellFormed = true → s.phase = .run → s.st = .idle →
    (∃ v : Byte, v.toNat = (s.vol.toNat + 1) % 256 ∧
      exec .msgVolup s = .next (afterSend { s with vol := v } (encodeFrame 0x06 true ⟨0x00, v⟩))) ∧
    (∃ v : Byte, v.toNat = (s.vol.toNat + 255) % 256 ∧
      exec .msgVoldown s = .next (afterSend { s with vol := v } (encodeFrame 0x06 true ⟨0x00, v⟩)))

/-- R120, R123, R133: an instruction run where its enabling condition does not hold leaves the block as it was.
That it then answers a next state showing `noStep` is the model's reading of "no enabled step" (log 8); that the queue is no part of exec's condition is its choice (log 22). -/
def Obligations.DispatcherInstructionsWaitWhenNotEnabled : Prop :=
  ∀ (i : Instr) (s : State), s.cfg.wellFormed = true → ¬Enabled i s →
    exec i s = .next { s with obs := s.obs ++ [.noStep] }

/-- R123: in phase INIT the Dispatcher sends the frame INIT_IDX selects and dequeues nothing. -/
def Obligations.InitializationDispatch : Prop :=
  ∀ s : State, s.cfg.wellFormed = true → nextAction s = .dispatcher → s.phase = .init → s.st = .idle →
    s.initIdx.toNat ≤ 2 →
    ∃ f, [encodeFrame 0x09 true ⟨0x00, s.cfg.initSource⟩, encodeFrame 0x06 true ⟨0x00, s.vol⟩,
        encodeFrame 0x03 true ⟨s.cfg.welcomeTrack.extractLsb' 8 8, s.cfg.welcomeTrack.extractLsb' 0 8⟩][s.initIdx.toNat]?
          = some f ∧
      step s = .next { s with frameReg := f, st := .send, sched := s.sched.tail, obs := [.send f] }

/-- R133 with R134 to R139: in phase RUN the Dispatcher dequeues the head and sends its frame; it waits on an empty
queue; a word with tag 6 or 7 in the queue faults. The model's choices: waiting is a next state that shows `noStep`
(log 8), and a TRACK word outside 1..N_TRACKS, which is never in the queue, is sent like any other (log 11). -/
def Obligations.DequeueAndDispatch : Prop :=
  ∀ s : State, s.cfg.wellFormed = true → nextAction s = .dispatcher → s.phase = .run → s.st = .idle →
    (s.q = [] → step s = .next { s with sched := s.sched.tail, obs := [.noStep] }) ∧
    ∀ (w : MsgWord) (ws : List MsgWord), s.q = w :: ws →
      ((msgTag w).toNat ≤ 5 →
        step s = .next { s with
          vol := volAfter s.vol w, q := ws, frameReg := messageFrame s.vol w, st := .send,
          sched := s.sched.tail, obs := [.dequeued w, .send (messageFrame s.vol w)] }) ∧
      (5 < (msgTag w).toNat → step s = .fault .malformedInQueue)

/-! ### The Sink, pacing, the producer port, reset -/

/-- R128: `send_ok` calls the flush, `flush_ok` starts the pacing delay. The premise is R21 (v). -/
def Obligations.SinkOkAnswers : Prop :=
  ∀ (s : State) (rest : List Action), s.cfg.wellFormed = true → (s.phase = .halt → s.st = .idle) →
    (s.st = .send → s.sched = .sink .send .ok :: rest →
      step s = .next { s with st := .flush, sched := rest, obs := [.answered .send .ok, .flush] }) ∧
    (s.st = .flush → s.sched = .sink .flush .ok :: rest →
      step s = .next { s with st := .pace, paceCnt := s.cfg.paceTicks, sched := rest, obs := [.answered .flush .ok] })

/-- R129, R153: an error answer is fatal in phase INIT and drops the command in phase RUN; VOL, Q and INIT_IDX
stay; `err_strobe` shows it, with `err_kind` 0 for SEND and 1 for FLUSH. -/
def Obligations.TransportErrorsAreTaken : Prop :=
  ∀ (s : State) (c : SinkCall) (rest : List Action), s.cfg.wellFormed = true → s.sched = .sink c .err :: rest →
    (c = .send ∧ s.st = .send ∨ c = .flush ∧ s.st = .flush) →
    (s.phase = .init → ∃ t, step s = .next t ∧
      t = { s with phase := .halt, st := .idle, sched := rest, obs := [.answered c .err, .txError c] } ∧
      errStrobe t = true ∧ errKind t = some (if c = .send then 0 else 1) ∧ halted t = true) ∧
    (s.phase = .run → ∃ t, step s = .next t ∧
      t = { s with st := .pace, paceCnt := s.cfg.paceTicks, sched := rest, obs := [.answered c .err, .txError c] } ∧
      errStrobe t = true ∧ errKind t = some (if c = .send then 0 else 1) ∧ halted t = false)

/-- R24: an answer to a call that is not pending is ignored. That the step shows `noStep` is the model's (log 8). -/
def Obligations.StrayAnswersAreIgnored : Prop :=
  ∀ (s : State) (c : SinkCall) (a : Answer) (rest : List Action), s.cfg.wellFormed = true →
    s.sched = .sink c a :: rest → ¬(c = .send ∧ s.st = .send) → ¬(c = .flush ∧ s.st = .flush) →
    step s = .next { s with sched := rest, obs := [.noStep] }

/-- R131: a tick counts the pacing delay down and changes nothing else. The premise is R21 (v). -/
def Obligations.TickCountsThePacingDelay : Prop :=
  ∀ (s : State) (rest : List Action), s.cfg.wellFormed = true → (s.phase = .halt → s.st = .idle) →
    s.sched = .tick :: rest →
    (s.st = .pace ∧ 0 < s.paceCnt →
      step s = .next { s with paceCnt := s.paceCnt - 1, sched := rest, obs := [.tick] }) ∧
    (¬(s.st = .pace ∧ 0 < s.paceCnt) → step s = .next { s with sched := rest, obs := [.tick] })

/-- R132: the end of the pacing delay, with the tests on INIT_IDX before the step; while ticks remain no step is
enabled (R120), which the model answers with a next state that shows `noStep` (log 8). The premises are R21 (iv)
and (v). -/
def Obligations.PacingDelayEnds : Prop :=
  ∀ s : State, s.cfg.wellFormed = true → (s.phase = .halt → s.st = .idle) → s.initIdx.toNat ≤ 2 →
    nextAction s = .dispatcher → s.st = .pace →
    (s.paceCnt = 0 → s.phase = .init → s.initIdx.toNat < 2 →
      step s = .next { s with st := .idle, initIdx := s.initIdx + 1, sched := s.sched.tail, obs := [.endPace] }) ∧
    (s.paceCnt = 0 → s.phase = .init → s.initIdx = 2 →
      step s = .next { s with st := .idle, phase := .run, sched := s.sched.tail, obs := [.endPace] }) ∧
    (s.paceCnt = 0 → s.phase = .run →
      step s = .next { s with st := .idle, sched := s.sched.tail, obs := [.endPace] }) ∧
    (0 < s.paceCnt → step s = .next { s with sched := s.sched.tail, obs := [.noStep] })

/-- R32, R33, R34, in every phase (R38): a malformed offer is dropped even when the queue is full, a valid one is
appended when there is room and waits when there is none. R34 gives the waiting offer no step: that it is a next
state that shows `suspended`, and is offered again by the schedule, is the model's reading (logs 8 and 19). -/
def Obligations.OffersAtTheProducerPort : Prop :=
  ∀ (s : State) (p : Nat) (w : MsgWord) (rest : List Action), s.cfg.wellFormed = true →
    s.sched = .offer p w :: rest → let tag := (msgTag w).toNat
    let valid := 1 ≤ tag ∧ tag ≤ 5 ∨ tag = 0 ∧ 1 ≤ (msgId w).toNat ∧ (msgId w).toNat ≤ s.cfg.nTracks
    (¬valid → step s = .next { s with sched := rest, obs := [.dropped w] } ∧ enqReady s w false = true) ∧
    (valid → s.q.length < 10 →
      step s = .next { s with q := s.q ++ [w], sched := rest, obs := [.enqueued w] } ∧ enqReady s w false = true) ∧
    (valid → 10 ≤ s.q.length →
      step s = .next { s with sched := rest, obs := [.suspended w] } ∧ enqReady s w false = false)

/-- R170: the reset step, from every state, one with a pending call too; the handshakes on that tick, whose input
`rst` is 1, and what holds after it, while `rst` stays 1 or not; FRAME_REG may hold anything afterwards. -/
def Obligations.ResetStepSetsEveryRegister : Prop :=
  ∀ (s : State) (rest : List Action), s.cfg.wellFormed = true → s.sched = .reset :: rest →
    ∃ t, step s = .next t ∧ t.vol = s.cfg.volDefault ∧ t.phase = .init ∧ t.initIdx = 0 ∧ t.st = .idle ∧
      t.paceCnt = 0 ∧ t.q = [] ∧ t.cfg = s.cfg ∧ t.sched = rest ∧
      (∀ w, enqReady s w (rstInput s) = false) ∧ txSendReq s (rstInput s) = false ∧
      txFlushReq s (rstInput s) = false ∧ errStrobe t = false ∧
      ∀ rst, txSendReq t rst = false ∧ txFlushReq t rst = false

/-- R27: the reset values and the flags after reset, for every configuration. -/
def Obligations.ResetValues : Prop :=
  ∀ c : Config, let s := State.resetFor c
    s.vol = c.volDefault ∧ s.phase = .init ∧ s.initIdx = 0 ∧ s.st = .idle ∧ s.paceCnt = 0 ∧ s.q = [] ∧
    qEmpty s = true ∧ (c.wellFormed = true → qFull s = false) ∧ halted s = false ∧ busy s = false ∧
    (∀ rst, txSendReq s rst = false ∧ txFlushReq s rst = false) ∧ errStrobe s = false ∧
    volO s = c.volDefault ∧ qCountO s = 0

/-! ### Invariants and rules of the whole machine -/

/-- The invariant of R21 holds after reset, for every well-formed configuration; so in State.reset. -/
def Obligations.InvariantHoldsAtReset : Prop :=
  (∀ c : Config, c.wellFormed = true → Inv (State.resetFor c)) ∧ Inv State.reset

/-- R21: every step, of every agent, keeps the invariant. -/
def Obligations.EveryStepKeepsTheInvariant : Prop :=
  ∀ s t : State, Inv s → step s = .next t → Inv t

/-- R21 with U6 and U7: where the invariant holds the machine neither faults nor refuses. The spec has states in
which no step is enabled (R120); that the machine answers a next state there too is the model's reading (log 8). -/
def Obligations.InvariantStatesAlwaysStep : Prop :=
  ∀ s : State, Inv s → ∃ t, step s = .next t

/-- U6, U7: the only faults are a word with tag 6 or 7 at the head of the queue and INIT_IDX = 3. -/
def Obligations.FaultsOnlyWhereTheSpecSays : Prop :=
  ∀ (s : State) (r : Fault), step s = .fault r →
    (r = .malformedInQueue ∧ s.phase = .run ∧ s.st = .idle ∧ ∃ w ws, s.q = w :: ws ∧ 6 ≤ (msgTag w).toNat) ∨
    (r = .illegalInitIdx ∧ s.phase = .init ∧ s.initIdx = 3)

/-- R11: VOL changes only by VOLUP and VOLDOWN at the head of the queue, and by reset. -/
def Obligations.OnlyVolumeMessagesWriteVol : Prop :=
  ∀ s t : State, step s = .next t → t.vol ≠ s.vol →
    Event.reset ∈ t.obs ∨ ∃ w ws, s.phase = .run ∧ s.st = .idle ∧ s.q = w :: ws ∧ t.q = ws ∧
      (msgTag w = 4 ∧ t.vol = s.vol + 1 ∨ msgTag w = 5 ∧ t.vol = s.vol - 1)

/-- R13: INIT goes to RUN only by the end of the third pacing delay and to HALT only by a transport error; RUN and
HALT are left only by reset. -/
def Obligations.PhaseTransitions : Prop :=
  ∀ s t : State, step s = .next t → t.phase ≠ s.phase →
    (Event.reset ∈ t.obs ∧ t.phase = .init) ∨
    (s.phase = .init ∧ t.phase = .run ∧ s.initIdx = 2 ∧ s.st = .pace ∧ s.paceCnt = 0) ∨
    (s.phase = .init ∧ t.phase = .halt ∧ ∃ c, t.obs = [.answered c .err, .txError c])

/-- R41, R127, R57: every frame handed to the Sink is well-formed and is the one in FRAME_REG while ST = SEND. -/
def Obligations.SentFramesAreWellFormed : Prop :=
  ∀ (s t : State) (f : Frame), step s = .next t → Event.send f ∈ t.obs →
    frameWellFormed f = true ∧ t.frameReg = f ∧ t.st = .send ∧ s.st = .idle ∧ txFrame t = frameToBits f

/-- R17: no step reads FRAME_REG, nor the model's counter of free values: two states that differ in them alone
step alike. -/
def Obligations.StaleFrameIsNeverRead : Prop :=
  ∀ s s' : State, SameBlock s s' → s.sched = s'.sched →
    (∀ r, step s = .refused r → step s' = .refused r) ∧ (∀ r, step s = .fault r → step s' = .fault r) ∧
    ∀ t, step s = .next t → ∃ t', step s' = .next t' ∧ SameBlock t t' ∧ t.sched = t'.sched ∧ t.obs = t'.obs

/-- R163, R22: the block sees neither which producer offers nor what it showed before. -/
def Obligations.ProducersAndPastAreInvisible : Prop :=
  ∀ (s : State) (p p' : Nat) (w : MsgWord) (rest : List Action) (o : List Event),
    step { s with sched := .offer p w :: rest } = step { s with sched := .offer p' w :: rest } ∧
    step { s with obs := o } = step s

/-! ### Runs -/

/-- R31, R36, R51 (i), R141 (iv): without a reset, what was in the queue and what was enqueued leaves it in that
order, nothing lost, added or overtaken. -/
def Obligations.QueueIsFirstInFirstOut : Prop :=
  ∀ (n : Nat) (s t : State) (es : List Event), runShows n s = some (t, es) → noReset es = true →
    s.q ++ enqueuedWords es = dequeuedWords es ++ t.q

/-- R141 (v): without a reset, VOL moves by the VOLUP messages dequeued minus the VOLDOWN messages dequeued, modulo
256, whatever the Sink answered. -/
def Obligations.VolCountsVolumeMessages : Prop :=
  ∀ (n : Nat) (s t : State) (es : List Event), runShows n s = some (t, es) → noReset es = true →
    (t.vol.toNat : Int) =
      ((s.vol.toNat : Int) + tagCount 4 (dequeuedWords es) - tagCount 5 (dequeuedWords es)) % 256

/-- R141 (iii): between the answer that ends a frame and the next `send` there are at least PACE_TICKS ticks. -/
def Obligations.PacingSeparatesFrames : Prop :=
  ∀ (n : Nat) (s s' t : State) (es : List Event), step s = .next s' → endsFrame s'.obs = true →
    runShows n s' = some (t, es) → noReset es = true → sentFrames es ≠ [] → s.cfg.paceTicks ≤ tickCount es

/-- R43, R141 (ii): on every run, from every state, `send_ok` is followed by one `flush`, `send_err` by none, and
no call is made while one is pending. -/
def Obligations.SinkCallsKeepTheirOrder : Prop :=
  ∀ (n : Nat) (s t : State) (es : List Event), runShows n s = some (t, es) → sinkOrderly (sinkStateOf s) es = true

/-- R122, R68, R141 (i): in phase RUN, without a reset, the frames sent are those of the messages dequeued, one each
and in their order. -/
def Obligations.OneFrameForEachMessage : Prop :=
  ∀ (n : Nat) (s t : State) (es : List Event), s.phase = .run → runShows n s = some (t, es) → noReset es = true →
    sentFrames es = messageFrames s.vol (dequeuedWords es)

/-- R141 (i): from reset, whatever the agents do, the frames sent are INIT0's, INIT1's, INIT2's, then those of the
messages; no message is dequeued before all three were sent. -/
def Obligations.InitializationFramesComeFirst : Prop :=
  ∀ (n : Nat) (c : Config) (sched : List Action) (t : State) (es : List Event),
    runShows n { State.resetFor c with sched := sched } = some (t, es) → noReset es = true →
    ∃ k, k ≤ 3 ∧ sentFrames es = (initFrames c).take k ++ messageFrames c.volDefault (dequeuedWords es) ∧
      (dequeuedWords es ≠ [] → k = 3)

/-- R140, R178: HALT is for good: without a reset no call is made, nothing is dequeued, no register but the queue
changes, and the queue only fills. -/
def Obligations.HaltIsForGood : Prop :=
  ∀ (n : Nat) (s t : State) (es : List Event), s.phase = .halt → runShows n s = some (t, es) → noReset es = true →
    t.phase = .halt ∧ t.vol = s.vol ∧ t.initIdx = s.initIdx ∧ t.st = s.st ∧ t.paceCnt = s.paceCnt ∧
    t.frameReg = s.frameReg ∧ t.q = s.q ++ enqueuedWords es ∧ (s.q.length ≤ 10 → t.q.length ≤ 10) ∧
    sentFrames es = [] ∧ Event.flush ∉ es ∧ dequeuedWords es = []

/-- R120, R133 to R139 with R128 to R132: one round of the agents takes one message from the queue to the end of its
pacing delay. Nothing is said of FRAME_REG, which means nothing once the frame was sent (R17). -/
def Obligations.OneRoundServesOneMessage : Prop :=
  ∀ (s : State) (w : MsgWord) (ws : List MsgWord) (rest : List Action),
    s.cfg.wellFormed = true → s.phase = .run → s.st = .idle → s.q = w :: ws → (msgTag w).toNat ≤ 5 →
    s.sched = cleanRound s.cfg ++ rest →
    ∃ t, runShows (s.cfg.paceTicks + 4) s =
        some (t, [.dequeued w, .send (messageFrame s.vol w)] ++ cleanRoundShows s.cfg) ∧
      SameBlock t { s with vol := volAfter s.vol w, q := ws, paceCnt := 0 } ∧ t.sched = rest

/-- R174: with a Sink that answers ok and a clock that ticks, three rounds after reset the three initialization
frames are sent in order and the Dispatcher is in phase RUN. -/
def Obligations.CleanBootReachesRun : Prop :=
  ∀ (c : Config) (rest : List Action), c.wellFormed = true →
    ∃ t es, runShows (3 * (c.paceTicks + 4))
        { State.resetFor c with sched := cleanRound c ++ cleanRound c ++ cleanRound c ++ rest } = some (t, es) ∧
      sentFrames es = initFrames c ∧ t.phase = .run ∧ t.st = .idle ∧ t.initIdx = 2 ∧ t.vol = c.volDefault ∧
      t.q = [] ∧ t.sched = rest

/-! ### Flags and ports -/

/-- R20, R24, R13, R15: the flags, the ports and the codes in every state that meets the invariant; the handshakes
for both values of `rst` (R170). -/
def Obligations.FlagsAndPortsShowTheState : Prop :=
  (∀ s : State, Inv s →
    (qEmpty s = true ↔ s.q = []) ∧ (qFull s = true ↔ s.q.length = 10) ∧ (halted s = true ↔ s.phase = .halt) ∧
    (busy s = true ↔ s.st ≠ .idle) ∧ (qCountO s).toNat = s.q.length ∧ volO s = s.vol ∧
    (s.st = .send → txFrame s = frameToBits s.frameReg) ∧
    ∀ rst, (txSendReq s rst = true ↔ rst = false ∧ s.st = .send) ∧
      (txFlushReq s rst = true ↔ rst = false ∧ s.st = .flush) ∧
      ∀ w, (enqReady s w rst = true ↔ rst = false ∧ (msgValid s.cfg w = false ∨ s.q.length < 10))) ∧
  (∀ f : Frame, catOk (.ok f) = true ∧ catErr (.ok f) = 0 ∧ catFrame (.ok f) = frameToBits f) ∧
  phaseCode .init = 0 ∧ phaseCode .run = 1 ∧ phaseCode .halt = 2 ∧
  stCode .idle = 0 ∧ stCode .send = 1 ∧ stCode .flush = 2 ∧ stCode .pace = 3

/-- R24, R153: after a step `err_strobe` is 1 exactly when that step took a transport error, the Sink's error answer
to the pending call; `err_kind` is then 0 for `send` and 1 for `flush`. -/
def Obligations.ErrStrobeShowsATransportError : Prop :=
  ∀ s t : State, step s = .next t →
    (errStrobe t = true ↔
      s.phase ≠ .halt ∧ (nextAction s = .sink .send .err ∧ s.st = .send ∨
        nextAction s = .sink .flush .err ∧ s.st = .flush)) ∧
    (errStrobe t = true → s.st = .send → errKind t = some 0) ∧
    (errStrobe t = true → s.st = .flush → errKind t = some 1)
end

