-- ==== Sys2Proof/Laws/Operands.lean ====
section
/-! SUPPORT. The byte splits and the fields of a ControlMessage word: what each gives on what was put together. -/

namespace Sys2Proof.Machine

/-- R47: the low byte of two joined bytes. -/
theorem loByte_joinBytes (hi lo : Byte) : loByte (joinBytes hi lo) = lo := by
  apply BitVec.eq_of_toNat_eq
  have := lo.isLt
  simp only [loByte, joinBytes, BitVec.extractLsb'_toNat, BitVec.toNat_append]
  rw [← Nat.shiftLeft_add_eq_or_of_lt lo.isLt, Nat.shiftLeft_eq, Nat.shiftRight_zero]
  omega

/-- R47: the high byte of two joined bytes. -/
theorem hiByte_joinBytes (hi lo : Byte) : hiByte (joinBytes hi lo) = hi := by
  apply BitVec.eq_of_toNat_eq
  have := lo.isLt
  have := hi.isLt
  simp only [hiByte, joinBytes, BitVec.extractLsb'_toNat, BitVec.toNat_append]
  rw [← Nat.shiftLeft_add_eq_or_of_lt lo.isLt, Nat.shiftLeft_eq, Nat.shiftRight_eq_div_pow]
  omega

/-- R47: splitting a 16-bit value and joining its bytes gives it back. -/
theorem joinBytes_split (v : Word) : joinBytes (hiByte v) (loByte v) = v := by
  apply BitVec.eq_of_toNat_eq
  have hl : (loByte v).toNat < 2 ^ 8 := (loByte v).isLt
  have := v.isLt
  simp only [joinBytes, BitVec.toNat_append]
  rw [← Nat.shiftLeft_add_eq_or_of_lt hl, Nat.shiftLeft_eq]
  simp only [hiByte, loByte, BitVec.extractLsb'_toNat, Nat.shiftRight_eq_div_pow]
  omega

/-- R61: a byte carried in the low half of a port. -/
theorem loByte_byteOnPort (v : Byte) : loByte (byteOnPort v) = v := by
  apply BitVec.eq_of_toNat_eq
  have := v.isLt
  simp only [loByte, byteOnPort, BitVec.extractLsb'_toNat, BitVec.toNat_setWidth, Nat.shiftRight_zero]
  omega

/-- R58: the tag of a word put together. -/
theorem msgTag_messageWord (tag : BitVec 3) (id : Word) : msgTag (messageWord tag id) = tag := by
  apply BitVec.eq_of_toNat_eq
  have := id.isLt
  have := tag.isLt
  simp only [msgTag, messageWord, BitVec.extractLsb'_toNat, BitVec.toNat_append]
  rw [← Nat.shiftLeft_add_eq_or_of_lt id.isLt, Nat.shiftLeft_eq, Nat.shiftRight_eq_div_pow]
  omega

/-- R58: the identifier of a word put together. -/
theorem msgId_messageWord (tag : BitVec 3) (id : Word) : msgId (messageWord tag id) = id := by
  apply BitVec.eq_of_toNat_eq
  have := id.isLt
  simp only [msgId, messageWord, BitVec.extractLsb'_toNat, BitVec.toNat_append]
  rw [← Nat.shiftLeft_add_eq_or_of_lt id.isLt, Nat.shiftLeft_eq, Nat.shiftRight_zero]
  omega

/-- R58: a word is its tag and its identifier. -/
theorem messageWord_split (w : MsgWord) : messageWord (msgTag w) (msgId w) = w := by
  apply BitVec.eq_of_toNat_eq
  have hi : (msgId w).toNat < 2 ^ 16 := (msgId w).isLt
  have := w.isLt
  simp only [messageWord, BitVec.toNat_append]
  rw [← Nat.shiftLeft_add_eq_or_of_lt hi, Nat.shiftLeft_eq]
  simp only [msgTag, msgId, BitVec.extractLsb'_toNat, Nat.shiftRight_eq_div_pow]
  omega

end Sys2Proof.Machine
end

