-- ==== Sys2Proof/Laws/State.lean ====
section
/-! SUPPORT. One lemma for each field and each update of the state, so that no proof unfolds a record update. -/

namespace Sys2Proof.Machine

@[simp] theorem observe_vol (e : Event) (s : State) : (observe e s).vol = s.vol := rfl
@[simp] theorem observe_phase (e : Event) (s : State) : (observe e s).phase = s.phase := rfl
@[simp] theorem observe_initIdx (e : Event) (s : State) : (observe e s).initIdx = s.initIdx := rfl
@[simp] theorem observe_st (e : Event) (s : State) : (observe e s).st = s.st := rfl
@[simp] theorem observe_paceCnt (e : Event) (s : State) : (observe e s).paceCnt = s.paceCnt := rfl
@[simp] theorem observe_frameReg (e : Event) (s : State) : (observe e s).frameReg = s.frameReg := rfl
@[simp] theorem observe_q (e : Event) (s : State) : (observe e s).q = s.q := rfl
@[simp] theorem observe_cfg (e : Event) (s : State) : (observe e s).cfg = s.cfg := rfl
@[simp] theorem observe_sched (e : Event) (s : State) : (observe e s).sched = s.sched := rfl
@[simp] theorem observe_obs (e : Event) (s : State) : (observe e s).obs = s.obs ++ [e] := rfl
@[simp] theorem observe_freeCtr (e : Event) (s : State) : (observe e s).freeCtr = s.freeCtr := rfl

@[simp] theorem noStep_vol (s : State) : (noStep s).vol = s.vol := rfl
@[simp] theorem noStep_phase (s : State) : (noStep s).phase = s.phase := rfl
@[simp] theorem noStep_initIdx (s : State) : (noStep s).initIdx = s.initIdx := rfl
@[simp] theorem noStep_st (s : State) : (noStep s).st = s.st := rfl
@[simp] theorem noStep_paceCnt (s : State) : (noStep s).paceCnt = s.paceCnt := rfl
@[simp] theorem noStep_frameReg (s : State) : (noStep s).frameReg = s.frameReg := rfl
@[simp] theorem noStep_q (s : State) : (noStep s).q = s.q := rfl
@[simp] theorem noStep_cfg (s : State) : (noStep s).cfg = s.cfg := rfl
@[simp] theorem noStep_sched (s : State) : (noStep s).sched = s.sched := rfl
@[simp] theorem noStep_obs (s : State) : (noStep s).obs = s.obs ++ [.noStep] := rfl
@[simp] theorem noStep_freeCtr (s : State) : (noStep s).freeCtr = s.freeCtr := rfl

@[simp] theorem qEnq_vol (w : MsgWord) (s : State) : (qEnq w s).vol = s.vol := rfl
@[simp] theorem qEnq_phase (w : MsgWord) (s : State) : (qEnq w s).phase = s.phase := rfl
@[simp] theorem qEnq_initIdx (w : MsgWord) (s : State) : (qEnq w s).initIdx = s.initIdx := rfl
@[simp] theorem qEnq_st (w : MsgWord) (s : State) : (qEnq w s).st = s.st := rfl
@[simp] theorem qEnq_paceCnt (w : MsgWord) (s : State) : (qEnq w s).paceCnt = s.paceCnt := rfl
@[simp] theorem qEnq_frameReg (w : MsgWord) (s : State) : (qEnq w s).frameReg = s.frameReg := rfl
@[simp] theorem qEnq_q (w : MsgWord) (s : State) : (qEnq w s).q = s.q ++ [w] := rfl
@[simp] theorem qEnq_cfg (w : MsgWord) (s : State) : (qEnq w s).cfg = s.cfg := rfl
@[simp] theorem qEnq_sched (w : MsgWord) (s : State) : (qEnq w s).sched = s.sched := rfl
@[simp] theorem qEnq_obs (w : MsgWord) (s : State) : (qEnq w s).obs = s.obs := rfl
@[simp] theorem qEnq_freeCtr (w : MsgWord) (s : State) : (qEnq w s).freeCtr = s.freeCtr := rfl

@[simp] theorem startSend_vol (f : Frame) (s : State) : (startSend f s).vol = s.vol := rfl
@[simp] theorem startSend_phase (f : Frame) (s : State) : (startSend f s).phase = s.phase := rfl
@[simp] theorem startSend_initIdx (f : Frame) (s : State) : (startSend f s).initIdx = s.initIdx := rfl
@[simp] theorem startSend_st (f : Frame) (s : State) : (startSend f s).st = .send := rfl
@[simp] theorem startSend_paceCnt (f : Frame) (s : State) : (startSend f s).paceCnt = s.paceCnt := rfl
@[simp] theorem startSend_frameReg (f : Frame) (s : State) : (startSend f s).frameReg = f := rfl
@[simp] theorem startSend_q (f : Frame) (s : State) : (startSend f s).q = s.q := rfl
@[simp] theorem startSend_cfg (f : Frame) (s : State) : (startSend f s).cfg = s.cfg := rfl
@[simp] theorem startSend_sched (f : Frame) (s : State) : (startSend f s).sched = s.sched := rfl
@[simp] theorem startSend_obs (f : Frame) (s : State) : (startSend f s).obs = s.obs ++ [.send f] := rfl
@[simp] theorem startSend_freeCtr (f : Frame) (s : State) : (startSend f s).freeCtr = s.freeCtr := rfl

@[simp] theorem enterPace_vol (s : State) : (enterPace s).vol = s.vol := rfl
@[simp] theorem enterPace_phase (s : State) : (enterPace s).phase = s.phase := rfl
@[simp] theorem enterPace_initIdx (s : State) : (enterPace s).initIdx = s.initIdx := rfl
@[simp] theorem enterPace_st (s : State) : (enterPace s).st = .pace := rfl
@[simp] theorem enterPace_paceCnt (s : State) : (enterPace s).paceCnt = s.cfg.paceTicks := rfl
@[simp] theorem enterPace_frameReg (s : State) : (enterPace s).frameReg = s.frameReg := rfl
@[simp] theorem enterPace_q (s : State) : (enterPace s).q = s.q := rfl
@[simp] theorem enterPace_cfg (s : State) : (enterPace s).cfg = s.cfg := rfl
@[simp] theorem enterPace_sched (s : State) : (enterPace s).sched = s.sched := rfl
@[simp] theorem enterPace_obs (s : State) : (enterPace s).obs = s.obs := rfl
@[simp] theorem enterPace_freeCtr (s : State) : (enterPace s).freeCtr = s.freeCtr := rfl

@[simp] theorem beginStep_vol (s : State) : (beginStep s).vol = s.vol := rfl
@[simp] theorem beginStep_phase (s : State) : (beginStep s).phase = s.phase := rfl
@[simp] theorem beginStep_initIdx (s : State) : (beginStep s).initIdx = s.initIdx := rfl
@[simp] theorem beginStep_st (s : State) : (beginStep s).st = s.st := rfl
@[simp] theorem beginStep_paceCnt (s : State) : (beginStep s).paceCnt = s.paceCnt := rfl
@[simp] theorem beginStep_frameReg (s : State) : (beginStep s).frameReg = s.frameReg := rfl
@[simp] theorem beginStep_q (s : State) : (beginStep s).q = s.q := rfl
@[simp] theorem beginStep_cfg (s : State) : (beginStep s).cfg = s.cfg := rfl
@[simp] theorem beginStep_sched (s : State) : (beginStep s).sched = s.sched.tail := rfl
@[simp] theorem beginStep_obs (s : State) : (beginStep s).obs = [] := rfl
@[simp] theorem beginStep_freeCtr (s : State) : (beginStep s).freeCtr = s.freeCtr := rfl

@[simp] theorem resetStep_vol (s : State) : (resetStep s).vol = s.cfg.volDefault := rfl
@[simp] theorem resetStep_phase (s : State) : (resetStep s).phase = .init := rfl
@[simp] theorem resetStep_initIdx (s : State) : (resetStep s).initIdx = 0 := rfl
@[simp] theorem resetStep_st (s : State) : (resetStep s).st = .idle := rfl
@[simp] theorem resetStep_paceCnt (s : State) : (resetStep s).paceCnt = 0 := rfl
@[simp] theorem resetStep_frameReg (s : State) : (resetStep s).frameReg = Config.freeFrame s.freeCtr := rfl
@[simp] theorem resetStep_q (s : State) : (resetStep s).q = [] := rfl
@[simp] theorem resetStep_cfg (s : State) : (resetStep s).cfg = s.cfg := rfl
@[simp] theorem resetStep_sched (s : State) : (resetStep s).sched = s.sched := rfl
@[simp] theorem resetStep_obs (s : State) : (resetStep s).obs = s.obs ++ [.reset] := rfl
@[simp] theorem resetStep_freeCtr (s : State) : (resetStep s).freeCtr = s.freeCtr + 1 := rfl

@[simp] theorem resetFor_vol (c : Config) : (State.resetFor c).vol = c.volDefault := rfl
@[simp] theorem resetFor_phase (c : Config) : (State.resetFor c).phase = .init := rfl
@[simp] theorem resetFor_initIdx (c : Config) : (State.resetFor c).initIdx = 0 := rfl
@[simp] theorem resetFor_st (c : Config) : (State.resetFor c).st = .idle := rfl
@[simp] theorem resetFor_paceCnt (c : Config) : (State.resetFor c).paceCnt = 0 := rfl
@[simp] theorem resetFor_q (c : Config) : (State.resetFor c).q = [] := rfl
@[simp] theorem resetFor_cfg (c : Config) : (State.resetFor c).cfg = c := rfl
@[simp] theorem resetFor_sched (c : Config) : (State.resetFor c).sched = [] := rfl
@[simp] theorem resetFor_obs (c : Config) : (State.resetFor c).obs = [] := rfl
@[simp] theorem resetFor_freeCtr (c : Config) : (State.resetFor c).freeCtr = 0 := rfl

end Sys2Proof.Machine
end

