-- ==== Sys2Proof/Laws/Ops.lean ====
section
/-! SUPPORT. For each shared operation, one lemma that says once everything it can do. -/

namespace Sys2Proof.Machine

/-! ### Guards -/

theorem guarded_of_wellFormed {s : State} (h : s.cfg.wellFormed = true) (r : Result) : guarded s r = r := by
  simp [guarded, h]

theorem guarded_of_illFormed {s : State} (h : s.cfg.wellFormed = false) (r : Result) :
    guarded s r = .refused .illFormedConfig := by
  simp [guarded, h]

theorem guarded_next {s t : State} {r : Result} (h : guarded s r = .next t) :
    s.cfg.wellFormed = true ∧ r = .next t := by
  cases hw : s.cfg.wellFormed
  · simp [guarded, hw] at h
  · exact ⟨rfl, by simpa [guarded, hw] using h⟩

theorem showCatalog_next {s t : State} {r : CatResult} (h : showCatalog r s = .next t) :
    s.cfg.wellFormed = true ∧ t = observe (.catalog r) s := by
  obtain ⟨hw, ht⟩ := guarded_next h
  exact ⟨hw, by injection ht with ht; exact ht.symm⟩

theorem sendCatalog_next {s t : State} {r : CatResult} (h : sendCatalog r s = .next t) :
    ∃ f, r = .ok f ∧ t = startSend f s := by
  cases r with
  | ok f => exact ⟨f, rfl, by injection h with h; exact h.symm⟩
  | reject c => simp [sendCatalog] at h

theorem whenRunIdle_next {s t : State} {r : Result} (h : whenRunIdle s r = .next t) :
    s.cfg.wellFormed = true ∧
      ((s.phase = .run ∧ s.st = .idle ∧ r = .next t) ∨ (¬(s.phase = .run ∧ s.st = .idle) ∧ t = noStep s)) := by
  obtain ⟨hw, h⟩ := guarded_next h
  refine ⟨hw, ?_⟩
  split at h
  · rename_i hr
    exact .inl ⟨hr.1, hr.2, h⟩
  · rename_i hr
    exact .inr ⟨hr, by injection h with h; exact h.symm⟩

theorem whenInitIdle_next {k : BitVec 2} {s t : State} {r : Result} (h : whenInitIdle k s r = .next t) :
    s.cfg.wellFormed = true ∧
      ((s.phase = .init ∧ s.st = .idle ∧ s.initIdx = k ∧ r = .next t) ∨
        (¬(s.phase = .init ∧ s.st = .idle ∧ s.initIdx = k) ∧ t = noStep s)) := by
  obtain ⟨hw, h⟩ := guarded_next h
  refine ⟨hw, ?_⟩
  split at h
  · rename_i hr
    exact .inl ⟨hr.1, hr.2.1, hr.2.2, h⟩
  · rename_i hr
    exact .inr ⟨hr, by injection h with h; exact h.symm⟩

/-! ### The queue and the producer port -/

theorem qDeq_some {s t : State} {w : MsgWord} (h : qDeq s = some (w, t)) :
    ∃ rest, s.q = w :: rest ∧ t = { s with q := rest } := by
  unfold qDeq at h
  split at h
  · cases h
  · rename_i hq
    simp only [Option.some.injEq, Prod.mk.injEq] at h
    exact ⟨_, by rw [hq, h.1], h.2.symm⟩

theorem offerWord_cases (w : MsgWord) (s : State) :
    (msgValid s.cfg w = false ∧ offerWord w s = observe (.dropped w) s) ∨
    (msgValid s.cfg w = true ∧ s.q.length < s.cfg.qCap ∧ offerWord w s = observe (.enqueued w) (qEnq w s)) ∨
    (msgValid s.cfg w = true ∧ ¬ s.q.length < s.cfg.qCap ∧ offerWord w s = observe (.suspended w) s) := by
  unfold offerWord
  split
  · exact .inl ⟨‹_›, rfl⟩
  · rename_i hv
    split
    · exact .inr (.inl ⟨by simpa using hv, ‹_›, rfl⟩)
    · exact .inr (.inr ⟨by simpa using hv, ‹_›, rfl⟩)

/-! ### The Sink, the clock, the end of pacing -/

theorem pendingCall_some {s : State} {c : SinkCall} (h : pendingCall s = some c) :
    s.phase ≠ .halt ∧ ((c = .send ∧ s.st = .send) ∨ (c = .flush ∧ s.st = .flush)) := by
  unfold pendingCall at h
  split at h <;> cases h
  · exact ⟨‹_›, .inl ⟨rfl, ‹_›⟩⟩
  · exact ⟨‹_›, .inr ⟨rfl, ‹_›⟩⟩

theorem sinkAnswer_cases (c : SinkCall) (a : Answer) (s : State) :
    (pendingCall s ≠ some c ∧ sinkAnswer c a s = noStep s) ∨
    (pendingCall s = some c ∧ a = .ok ∧ sinkAnswer c a s = sinkOk c (observe (.answered c .ok) s)) ∨
    (pendingCall s = some c ∧ a = .err ∧
      sinkAnswer c a s = takeTransportError c (observe (.answered c .err) s)) := by
  unfold sinkAnswer
  split
  · cases a
    · exact .inr (.inl ⟨‹_›, rfl, rfl⟩)
    · exact .inr (.inr ⟨‹_›, rfl, rfl⟩)
  · exact .inl ⟨‹_›, rfl⟩

theorem takeTransportError_init {s : State} (c : SinkCall) (h : s.phase = .init) :
    takeTransportError c s = { observe (.txError c) s with phase := .halt, st := .idle } := by
  simp [takeTransportError, afterError, h]

theorem takeTransportError_run {s : State} (c : SinkCall) (h : s.phase = .run) :
    takeTransportError c s = enterPace (observe (.txError c) s) := by
  simp [takeTransportError, afterError, h]

theorem tickClock_cases (s : State) :
    (s.phase ≠ .halt ∧ s.st = .pace ∧ 0 < s.paceCnt ∧
      tickClock s = observe .tick { s with paceCnt := s.paceCnt - 1 }) ∨
    (¬(s.phase ≠ .halt ∧ s.st = .pace ∧ 0 < s.paceCnt) ∧ tickClock s = observe .tick s) := by
  unfold tickClock
  split
  · rename_i h
    exact .inl ⟨h.1, h.2.1, h.2.2, rfl⟩
  · exact .inr ⟨‹_›, rfl⟩

theorem endPace_next {s t : State} (h : endPace s = .next t) :
    (s.phase = .init ∧ s.initIdx = 0 ∧ t = observe .endPace { s with st := .idle, initIdx := 1 }) ∨
    (s.phase = .init ∧ s.initIdx = 1 ∧ t = observe .endPace { s with st := .idle, initIdx := 2 }) ∨
    (s.phase = .init ∧ s.initIdx = 2 ∧ t = observe .endPace { s with st := .idle, phase := .run }) ∨
    (s.phase = .run ∧ t = observe .endPace { s with st := .idle }) ∨
    (s.phase = .halt ∧ t = noStep s) := by
  unfold endPace at h
  cases hp : s.phase with
  | init =>
    simp only [hp] at h
    split at h
    · rename_i hk
      exact .inl ⟨rfl, BitVec.eq_of_toNat_eq hk, by injection h with h; exact h.symm⟩
    · rename_i hk
      exact .inr (.inl ⟨rfl, BitVec.eq_of_toNat_eq hk, by injection h with h; exact h.symm⟩)
    · rename_i hk
      exact .inr (.inr (.inl ⟨rfl, BitVec.eq_of_toNat_eq hk, by injection h with h; exact h.symm⟩))
    · cases h
  | run =>
    simp only [hp] at h
    exact .inr (.inr (.inr (.inl ⟨rfl, by injection h with h; exact h.symm⟩)))
  | halt =>
    simp only [hp] at h
    exact .inr (.inr (.inr (.inr ⟨rfl, by injection h with h; exact h.symm⟩)))

/-! ### The turn -/

theorem nextAction_cons {s : State} {a : Action} {rest : List Action} (h : s.sched = a :: rest) :
    nextAction s = a := by
  simp [nextAction, h]

/-- Where the schedule says reset, the tick has `rst = 1`. -/
theorem rstInput_of_reset {s : State} {rest : List Action} (h : s.sched = .reset :: rest) : rstInput s = true := by
  simp [rstInput, nextAction_cons h]

/-- R170: with `rst = 1` no offer is accepted and no request is raised, whatever the state. -/
@[simp] theorem enqReady_rst (s : State) (w : MsgWord) : enqReady s w true = false := rfl
@[simp] theorem txSendReq_rst (s : State) : txSendReq s true = false := rfl
@[simp] theorem txFlushReq_rst (s : State) : txFlushReq s true = false := rfl

/-- R24: with `rst = 0` the requests follow ST. -/
@[simp] theorem txSendReq_run (s : State) : txSendReq s false = decide (s.st = .send) := rfl
@[simp] theorem txFlushReq_run (s : State) : txFlushReq s false = decide (s.st = .flush) := rfl

theorem nextAction_nil {s : State} (h : s.sched = []) :
    nextAction s = if s.st = .pace ∧ 0 < s.paceCnt then .tick else .dispatcher := by
  simp [nextAction, h]

theorem step_of_run {s t : State} {i : Instr} (hw : s.cfg.wellFormed = true) (h : turn s = .run i t) :
    step s = exec i t := by
  simp [step, guarded, hw, h]

theorem step_of_done {s : State} {r : Result} (hw : s.cfg.wellFormed = true) (h : turn s = .done r) :
    step s = r := by
  simp [step, guarded, hw, h]

/-- What the Dispatcher's turn can be: the table of R120. -/
theorem dispatcherTurn_cases (s : State) :
    (s.phase = .halt ∧ dispatcherTurn s = .done (.next (noStep s))) ∨
    (s.phase = .init ∧ s.st = .idle ∧ dispatcherTurn s = initTurn s) ∨
    (s.phase = .run ∧ s.st = .idle ∧ dispatcherTurn s = messageTurn s) ∨
    (s.phase ≠ .halt ∧ s.st = .pace ∧
      dispatcherTurn s = .done (if s.paceCnt = 0 then endPace s else .next (noStep s))) ∨
    (s.phase ≠ .halt ∧ (s.st = .send ∨ s.st = .flush) ∧ dispatcherTurn s = .done (.next (noStep s))) := by
  cases hp : s.phase <;> cases hs : s.st <;> simp [dispatcherTurn, hp, hs]

/-- Initialization dispatch: one of the three steps, or the fault of INIT_IDX = 3. -/
theorem initTurn_cases (s : State) :
    (s.initIdx = 0 ∧ initTurn s = .run .init0 s) ∨ (s.initIdx = 1 ∧ initTurn s = .run .init1 s) ∨
    (s.initIdx = 2 ∧ initTurn s = .run .init2 s) ∨
    (s.initIdx = 3 ∧ initTurn s = .done (.fault .illegalInitIdx)) := by
  have h4 : s.initIdx = 0 ∨ s.initIdx = 1 ∨ s.initIdx = 2 ∨ s.initIdx = 3 := by
    generalize s.initIdx = k
    revert k
    decide
  rcases h4 with h | h | h | h <;> simp [initTurn, h, decode, decodeInitStep]

end Sys2Proof.Machine
end

