-- ==== Sys2Proof/Laws/PerInstr.lean ====
section
/-! SUPPORT. A family of statements made per instruction: each instruction is encoded in the row of the tables of R58, R60 and R123 that names it. -/

namespace Sys2Proof.Laws

/-- What picks the row out: the selector of a catalog request (R60), the tag of a ControlMessage word (R58), the
number of an initialization step (R123). -/
inductive RowKey where
  | selector (n : Nat)
  | tag (n : Nat)
  | initStep (n : Nat)
deriving DecidableEq, Repr

/-- The key an encoding carries. -/
def keyOf : Encoding → RowKey
  | .request sel _ _ => .selector sel.toNat
  | .message w => .tag (Machine.msgTag w).toNat
  | .initStep k => .initStep k.toNat

/-- The key of an instruction's row, from the tables of R58, R60 and R123. -/
def rowKey : Instr → RowKey
  | .raw _ _ _ _ => .selector 0x00
  | .next => .selector 0x01
  | .prev => .selector 0x02
  | .playTrack _ => .selector 0x03
  | .volInc => .selector 0x04
  | .volDec => .selector 0x05
  | .setVolume _ => .selector 0x06
  | .setEq _ => .selector 0x07
  | .loopMode _ => .selector 0x08
  | .selectSource _ => .selector 0x09
  | .standby => .selector 0x0A
  | .normal => .selector 0x0B
  | .reset => .selector 0x0C
  | .resume => .selector 0x0D
  | .pause => .selector 0x0E
  | .playFolder _ _ => .selector 0x0F
  | .volumeAdjust _ => .selector 0x10
  | .repeatPlay _ => .selector 0x11
  | .playMp3Folder _ => .selector 0x12
  | .insertAdvert _ => .selector 0x13
  | .playFolderLarge _ _ => .selector 0x14
  | .stopAdvert => .selector 0x15
  | .stop => .selector 0x16
  | .repeatFolder _ => .selector 0x17
  | .randomAll => .selector 0x18
  | .repeatCurrent _ => .selector 0x19
  | .setDac _ => .selector 0x1A
  | .sleep => .selector 0x1B
  | .wake => .selector 0x1C
  | .msgTrack _ => .tag 0
  | .msgPause => .tag 1
  | .msgResume => .tag 2
  | .msgStop => .tag 3
  | .msgVolup => .tag 4
  | .msgVoldown => .tag 5
  | .init0 => .initStep 0
  | .init1 => .initStep 1
  | .init2 => .initStep 2

/-- The encoder puts an instruction in the row that names it. -/
def EncodingBelongsToItsRow.Statement (i : Instr) : Prop := keyOf (encode i) = rowKey i

namespace EncodingBelongsToItsRow

theorem raw (op : Byte) (fb : Bool) (msb lsb : Byte) : Statement (.raw op fb msb lsb) := rfl

theorem next : Statement .next := rfl

theorem prev : Statement .prev := rfl

theorem playTrack (n : Word) : Statement (.playTrack n) := rfl

theorem volInc : Statement .volInc := rfl

theorem volDec : Statement .volDec := rfl

theorem setVolume (v : Byte) : Statement (.setVolume v) := rfl

theorem setEq (p : Word) : Statement (.setEq p) := rfl

theorem loopMode (p : Word) : Statement (.loopMode p) := rfl

theorem selectSource (src : Byte) : Statement (.selectSource src) := rfl

theorem standby : Statement .standby := rfl

theorem normal : Statement .normal := rfl

theorem reset : Statement .reset := rfl

theorem resume : Statement .resume := rfl

theorem pause : Statement .pause := rfl

theorem playFolder (folder track : Byte) : Statement (.playFolder folder track) := rfl

theorem volumeAdjust (g : Byte) : Statement (.volumeAdjust g) := rfl

theorem repeatPlay (p : Word) : Statement (.repeatPlay p) := rfl

theorem playMp3Folder (p : Word) : Statement (.playMp3Folder p) := rfl

theorem insertAdvert (p : Word) : Statement (.insertAdvert p) := rfl

theorem playFolderLarge (folder : Byte) (track : Word) : Statement (.playFolderLarge folder track) := rfl

theorem stopAdvert : Statement .stopAdvert := rfl

theorem stop : Statement .stop := rfl

theorem repeatFolder (p : Word) : Statement (.repeatFolder p) := rfl

theorem randomAll : Statement .randomAll := rfl

theorem repeatCurrent (p : Word) : Statement (.repeatCurrent p) := rfl

theorem setDac (p : Word) : Statement (.setDac p) := rfl

theorem sleep : Statement .sleep := rfl

theorem wake : Statement .wake := rfl

theorem msgTrack (id : Word) : Statement (.msgTrack id) := by
  simp [Statement, encode, keyOf, rowKey, Machine.msgTag_messageWord]

theorem msgPause : Statement .msgPause := rfl

theorem msgResume : Statement .msgResume := rfl

theorem msgStop : Statement .msgStop := rfl

theorem msgVolup : Statement .msgVolup := rfl

theorem msgVoldown : Statement .msgVoldown := rfl

theorem init0 : Statement .init0 := rfl

theorem init1 : Statement .init1 := rfl

theorem init2 : Statement .init2 := rfl

end EncodingBelongsToItsRow

end Sys2Proof.Laws
end

