-- ==== Sys2Proof/Laws/Step.lean ====
section
/-! SUPPORT. What one step can do, said once: the inversion lemma of `step`, from which invariants follow by cases. -/

namespace Sys2Proof.Machine

open Sys2Proof.Safety

/-- What a step that answers `t` did, told by its effect on the state in which the action is taken. -/
inductive StepDid (s t : State) : Prop where
  /-- The scheduled agent had no enabled step, or its input was ignored. -/
  | nothing (h : t = noStep (beginStep s))
  /-- An initialization frame was sent (R123). -/
  | initSend (f : Frame) (hp : s.phase = .init) (hs : s.st = .idle)
      (hf : (s.initIdx = 0 ∧ f = encodeFrame 0x09 true (paramB8 s.cfg.initSource)) ∨
        (s.initIdx = 1 ∧ f = encodeFrame 0x06 true (paramB8 s.vol)) ∨
        (s.initIdx = 2 ∧ f = encodeFrame 0x03 true (paramP16 s.cfg.welcomeTrack)))
      (h : t = startSend f (beginStep s))
  /-- A message was dequeued and its frame sent (R133). -/
  | message (w : MsgWord) (rest : List MsgWord) (hp : s.phase = .run) (hs : s.st = .idle) (hq : s.q = w :: rest)
      (htag : (msgTag w).toNat ≤ 5)
      (h : t = startSend (messageFrame s.vol w)
        { beginStep s with q := rest, obs := [.dequeued w], vol := volAfter s.vol w })
  /-- The Sink's answer to the pending call was taken (R128, R129). -/
  | sinkOk (c : SinkCall) (ha : nextAction s = .sink c .ok) (hc : pendingCall s = some c)
      (h : t = Machine.sinkOk c (observe (.answered c .ok) (beginStep s)))
  | sinkErr (c : SinkCall) (ha : nextAction s = .sink c .err) (hc : pendingCall s = some c)
      (h : t = takeTransportError c (observe (.answered c .err) (beginStep s)))
  /-- The clock ticked (R131). -/
  | counted (ha : nextAction s = .tick) (hp : s.phase ≠ .halt) (hs : s.st = .pace) (hn : 0 < s.paceCnt)
      (h : t = observe .tick { beginStep s with paceCnt := s.paceCnt - 1 })
  | ticked (ha : nextAction s = .tick) (h : t = observe .tick (beginStep s))
  /-- The pacing delay ended (R132). -/
  | initPaced (k : BitVec 2) (hp : s.phase = .init) (hs : s.st = .pace) (hn : s.paceCnt = 0)
      (hk : (s.initIdx = 0 ∧ k = 1) ∨ (s.initIdx = 1 ∧ k = 2))
      (h : t = observe .endPace { beginStep s with st := .idle, initIdx := k })
  | lastInitPaced (hp : s.phase = .init) (hs : s.st = .pace) (hn : s.paceCnt = 0) (hk : s.initIdx = 2)
      (h : t = observe .endPace { beginStep s with st := .idle, phase := .run })
  | runPaced (hp : s.phase = .run) (hs : s.st = .pace) (hn : s.paceCnt = 0)
      (h : t = observe .endPace { beginStep s with st := .idle })
  /-- A producer's offer was dropped, enqueued or suspended (R32 to R34). -/
  | dropped (p : Nat) (w : MsgWord) (ha : nextAction s = .offer p w) (hv : msgValid s.cfg w = false) (h : t = observe (.dropped w) (beginStep s))
  | enqueued (p : Nat) (w : MsgWord) (ha : nextAction s = .offer p w) (hv : msgValid s.cfg w = true) (hl : s.q.length < s.cfg.qCap)
      (h : t = observe (.enqueued w) (qEnq w (beginStep s)))
  | suspended (p : Nat) (w : MsgWord) (ha : nextAction s = .offer p w) (hv : msgValid s.cfg w = true) (hl : ¬ s.q.length < s.cfg.qCap)
      (h : t = observe (.suspended w) (beginStep s))
  /-- The catalog port was evaluated (R60). -/
  | catalog (sel : BitVec 5) (a b : Word) (r : CatResult) (ha : nextAction s = .catalog sel a b)
      (h : t = observe (.catalog r) (beginStep s))
  /-- The block was reset (R170). -/
  | reset (ha : nextAction s = .reset) (h : t = resetStep (beginStep s))

/-- A message's instruction, run where the Dispatcher is ready, sends that message's frame. -/
theorem exec_message {s t : State} {w : MsgWord} {i : Instr} (hd : decode (.message w) = .instr i)
    (hp : s.phase = .run) (hs : s.st = .idle) (h : exec i s = .next t) :
    (msgTag w).toNat ≤ 5 ∧ t = startSend (messageFrame s.vol w) { s with vol := volAfter s.vol w } := by
  have key : ∀ {k : Nat} (hk : k < 8), (msgTag w).toNat = k → msgTag w = BitVec.ofNat 3 k := by
    intro k hk hw
    apply BitVec.eq_of_toNat_eq
    rw [hw]
    simp [Nat.mod_eq_of_lt hk]
  simp only [decode, decodeMessage] at hd
  split at hd
  case h_7 => cases hd
  all_goals
    rename_i hw
    have hb := key (by decide) hw
    cases hd
    refine ⟨by omega, ?_⟩
    obtain ⟨-, h⟩ := whenRunIdle_next h
    rcases h with ⟨-, -, h⟩ | ⟨hn, -⟩
    · obtain ⟨f, hf, rfl⟩ := sendCatalog_next h
      cases hf
      simp [messageFrame, volAfter, hb, paramP16, paramZero, paramB8]
    · exact absurd ⟨hp, hs⟩ hn

/-- Every catalog operation only shows its result. -/
theorem exec_catalog {s t : State} {i : Instr} {sel : BitVec 5} {a b : Word}
    (hd : decode (.request sel a b) = .instr i) (h : exec i s = .next t) :
    ∃ r, t = observe (.catalog r) s := by
  simp only [decode, decodeRequest] at hd
  split at hd
  all_goals first
    | (cases hd; exact ⟨_, (showCatalog_next h).2⟩)
    | cases hd

/-- The inversion lemma: what a step that answers a next state did. -/
theorem step_next {s t : State} (h : step s = .next t) : s.cfg.wellFormed = true ∧ StepDid s t := by
  obtain ⟨hw, h⟩ := guarded_next h
  refine ⟨hw, ?_⟩
  unfold turn at h
  cases ha : nextAction s with
  | dispatcher =>
    simp only [ha] at h
    rcases dispatcherTurn_cases (beginStep s) with ⟨-, hd⟩ | ⟨hp, hs, hd⟩ | ⟨hp, hs, hd⟩ | ⟨hp, hs, hd⟩ | ⟨-, -, hd⟩
      <;> rw [hd] at h
    · cases h; exact .nothing rfl
    · rcases initTurn_cases (beginStep s) with ⟨hk, hi⟩ | ⟨hk, hi⟩ | ⟨hk, hi⟩ | ⟨-, hi⟩ <;> rw [hi] at h
      case inr.inr.inr => cases h
      all_goals
        obtain ⟨-, h⟩ := whenInitIdle_next h
        rcases h with ⟨-, -, -, h⟩ | ⟨-, rfl⟩
        · obtain ⟨f, hf, rfl⟩ := sendCatalog_next h
          refine .initSend f hp hs ?_ rfl
          simp only [catSelectSource, catSetVolume, catPlayTrack] at hf
          first
            | (split at hf
               · cases hf; exact .inl ⟨hk, rfl⟩
               · cases hf)
            | (cases hf; exact .inr (.inl ⟨hk, rfl⟩))
            | (cases hf; exact .inr (.inr ⟨hk, rfl⟩))
        · exact .nothing rfl
    · unfold messageTurn at h
      cases hq : qDeq (beginStep s) with
      | none => simp only [hq] at h; cases h; exact .nothing rfl
      | some wt =>
        obtain ⟨w, u⟩ := wt
        simp only [hq] at h
        obtain ⟨rest, hq', rfl⟩ := qDeq_some hq
        cases hd : decode (.message w) with
        | instr i =>
          simp only [hd] at h
          have hx := (exec_message hd · · h)
          obtain ⟨htag, rfl⟩ := hx hp hs
          exact .message w rest hp hs hq' htag rfl
        | _ => simp only [hd] at h; cases h
    · simp only at h
      split at h
      · rename_i hn
        rcases endPace_next h with ⟨hp, hk, rfl⟩ | ⟨hp, hk, rfl⟩ | ⟨hp, hk, rfl⟩ | ⟨hp, rfl⟩ | ⟨-, rfl⟩
        · exact .initPaced 1 hp hs hn (.inl ⟨hk, rfl⟩) rfl
        · exact .initPaced 2 hp hs hn (.inr ⟨hk, rfl⟩) rfl
        · exact .lastInitPaced hp hs hn hk rfl
        · exact .runPaced hp hs hn rfl
        · exact .nothing rfl
      · cases h; exact .nothing rfl
    · cases h; exact .nothing rfl
  | sink c a =>
    simp only [ha] at h
    cases h
    rcases sinkAnswer_cases c a (beginStep s) with ⟨-, hd⟩ | ⟨hc, rfl, hd⟩ | ⟨hc, rfl, hd⟩
    · exact .nothing hd
    · exact .sinkOk c ha hc hd
    · exact .sinkErr c ha hc hd
  | tick =>
    simp only [ha] at h
    cases h
    rcases tickClock_cases (beginStep s) with ⟨hp, hs, hn, hd⟩ | ⟨-, hd⟩
    · exact .counted ha hp hs hn hd
    · exact .ticked ha hd
  | offer p w =>
    simp only [ha] at h
    cases h
    rcases offerWord_cases w (beginStep s) with ⟨hv, hd⟩ | ⟨hv, hl, hd⟩ | ⟨hv, hl, hd⟩
    · exact .dropped p w ha hv hd
    · exact .enqueued p w ha hv hl hd
    · exact .suspended p w ha hv hl hd
  | catalog sel a b =>
    simp only [ha, catalogTurn] at h
    cases hd : decode (.request sel a b) with
    | instr i =>
      simp only [hd] at h
      obtain ⟨r, rfl⟩ := exec_catalog hd h
      exact .catalog sel a b r ha rfl
    | _ =>
      simp only [hd] at h
      exact .catalog sel a b _ ha (showCatalog_next h).2
  | reset =>
    simp only [ha] at h
    cases h
    exact .reset ha rfl

end Sys2Proof.Machine
end

