-- ==== Sys2Proof/Tests/Slice0.lean ====
section
/-! SUPPORT. Tests. Expected words, frames and states are written out from the tables of R58 to R61 and from the vectors of 95_test_vectors.md (parts 1, 2.1 to 2.7); a theorem `witness_X` shows that the hypotheses of the obligation X are met together, clause by clause. -/

namespace Sys2Proof.Tests

open Sys2Proof.Machine Sys2Proof.Safety

/-! ### Helpers -/

/-- The reset state of `CFG_EX` with another sequencing state and one scheduled action. -/
def seqState (p : Phase) (k : BitVec 2) (st : St) (n : Nat) (a : Action) : State :=
  { State.reset with phase := p, initIdx := k, st := st, paceCnt := n, sched := [a] }

/-- Phase RUN, idle, with volume `v` and queue `q`, the Dispatcher scheduled. -/
def running (v : Byte) (q : List MsgWord) : State :=
  { State.reset with phase := .run, initIdx := 2, vol := v, q := q, sched := [.dispatcher] }

/-- The sequencing state and the count after a step. -/
def seqOf (s : State) : Option (Phase × BitVec 2 × St × Nat) :=
  match step s with
  | .next t => some (t.phase, t.initIdx, t.st, t.paceCnt)
  | .fault _ => none
  | .refused _ => none

/-- What a step showed. -/
def shown (s : State) : List Event :=
  match step s with
  | .next t => t.obs
  | .fault _ => []
  | .refused _ => []

/-- `VOL`, the queue's length and the frame handed to the Sink after a step. -/
def sentOf (s : State) : Option (Byte × Nat × List Frame) :=
  match step s with
  | .next t => some (t.vol, t.q.length, sentFrames t.obs)
  | .fault _ => none
  | .refused _ => none

/-- `err_kind` after a step in phase RUN with the given `ST`, if `err_strobe` is 1. -/
def errOf (st : St) (a : Action) : Option (BitVec 1) :=
  match step (seqState .run 2 st 0 a) with
  | .next t => if errStrobe t then errKind t else none
  | .fault _ => none
  | .refused _ => none

/-- What the catalog port shows for a request, under a configuration. -/
def port (c : Config) (sel : BitVec 5) (a b : Word) : List Event :=
  shown { State.resetFor c with sched := [.catalog sel a b] }

/-! ### Decoding: each word written out from R58, R60, R61, R123 -/

theorem test_decode_raw : decode (.request 0x00 0x1234 0xFE56) = .instr (.raw 0x56 false 0x12 0x34) := by decide

theorem test_decode_next : decode (.request 0x01 0 0) = .instr .next := by decide

theorem test_decode_prev : decode (.request 0x02 0xFFFF 0xFFFF) = .instr .prev := by decide

theorem test_decode_playTrack : decode (.request 0x03 0x1234 0xFFFF) = .instr (.playTrack 0x1234) := by decide

theorem test_decode_volInc : decode (.request 0x04 0 0) = .instr .volInc := by decide

theorem test_decode_volDec : decode (.request 0x05 0 0) = .instr .volDec := by decide

theorem test_decode_setVolume : decode (.request 0x06 0x0114 0) = .instr (.setVolume 20) := by decide

theorem test_decode_setEq : decode (.request 0x07 0x1234 0) = .instr (.setEq 0x1234) := by decide

theorem test_decode_loopMode : decode (.request 0x08 0x0102 0) = .instr (.loopMode 0x0102) := by decide

theorem test_decode_selectSource : decode (.request 0x09 0x0103 0) = .instr (.selectSource 3) := by decide

theorem test_decode_standby : decode (.request 0x0A 0 0) = .instr .standby := by decide

theorem test_decode_normal : decode (.request 0x0B 0 0) = .instr .normal := by decide

theorem test_decode_reset : decode (.request 0x0C 0 0) = .instr .reset := by decide

theorem test_decode_resume : decode (.request 0x0D 0 0) = .instr .resume := by decide

theorem test_decode_pause : decode (.request 0x0E 0 0) = .instr .pause := by decide

theorem test_decode_playFolder : decode (.request 0x0F 0xAB02 0xCD0A) = .instr (.playFolder 2 10) := by decide

theorem test_decode_volumeAdjust : decode (.request 0x10 0x011F 0) = .instr (.volumeAdjust 31) := by decide

theorem test_decode_repeatPlay : decode (.request 0x11 0x1234 0) = .instr (.repeatPlay 0x1234) := by decide

theorem test_decode_playMp3Folder : decode (.request 0x12 0x0100 0) = .instr (.playMp3Folder 256) := by decide

theorem test_decode_insertAdvert : decode (.request 0x13 0x1234 0) = .instr (.insertAdvert 0x1234) := by decide

theorem test_decode_playFolderLarge : decode (.request 0x14 0xFF12 0x1345) = .instr (.playFolderLarge 0x12 0x1345) := by decide

theorem test_decode_stopAdvert : decode (.request 0x15 0 0) = .instr .stopAdvert := by decide

theorem test_decode_stop : decode (.request 0x16 0 0) = .instr .stop := by decide

theorem test_decode_repeatFolder : decode (.request 0x17 0x1234 0) = .instr (.repeatFolder 0x1234) := by decide

theorem test_decode_randomAll : decode (.request 0x18 0 0) = .instr .randomAll := by decide

theorem test_decode_repeatCurrent : decode (.request 0x19 0x1234 0) = .instr (.repeatCurrent 0x1234) := by decide

theorem test_decode_setDac : decode (.request 0x1A 0x1234 0) = .instr (.setDac 0x1234) := by decide

theorem test_decode_sleep : decode (.request 0x1B 0xFFFF 0xFFFF) = .instr .sleep := by decide

theorem test_decode_wake : decode (.request 0x1C 0 0) = .instr .wake := by decide

theorem test_decode_msgTrack : decode (.message 0x00005) = .instr (.msgTrack 5) := by decide

theorem test_decode_msgPause : decode (.message 0x1BEEF) = .instr .msgPause := by decide

theorem test_decode_msgResume : decode (.message 0x20000) = .instr .msgResume := by decide

theorem test_decode_msgStop : decode (.message 0x30000) = .instr .msgStop := by decide

theorem test_decode_msgVolup : decode (.message 0x40000) = .instr .msgVolup := by decide

theorem test_decode_msgVoldown : decode (.message 0x50000) = .instr .msgVoldown := by decide

theorem test_decode_init0 : decode (.initStep 0) = .instr .init0 := by decide

theorem test_decode_init1 : decode (.initStep 1) = .instr .init1 := by decide

theorem test_decode_init2 : decode (.initStep 2) = .instr .init2 := by decide

theorem test_decode_rejects :
    [decode (.request 0x1D 0 0), decode (.request 0x1E 0 0), decode (.request 0x1F 0xFFFF 0xFFFF),
      decode (.message 0x60000), decode (.message 0x70005), decode (.initStep 3)] =
    [.reservedSelector, .reservedSelector, .reservedSelector, .malformedTag, .malformedTag, .illegalInitIdx] := by
  decide

/-- A frame is read as the most specific row it matches; a bad checksum or a source out of range is not. -/
theorem test_decode_frames :
    [decodeFrame Config.cfgEx ⟨0x7E, 0xFF, 0x06, 0x03, 0x01, 0x00, 0x01, 0xFE, 0xF6, 0xEF⟩, decodeFrame Config.cfgEx ⟨0x7E, 0xFF, 0x06, 0x09, 0x01, 0x00, 0x06, 0xFE, 0xEB, 0xEF⟩, decodeFrame Config.cfgEx ⟨0x7E, 0xFF, 0x06, 0x03, 0x01, 0x00, 0x01, 0xFE, 0xF7, 0xEF⟩, decodeFrame Config.cfgEx ⟨0x7E, 0xFF, 0x06, 0x14, 0x01, 0x20, 0x0A, 0xFE, 0xBC, 0xEF⟩] =
    [some (.playTrack 1), some (.raw 0x09 true 0x00 0x06), none, some (.playFolderLarge 2 10)] := by
  decide

/-- The table's words: INIT1, a ControlMessage, a frame with its checksum and the same with checksum bits zero. -/
theorem test_decode_table_words :
    [decodeTableWord 8 1, decodeTableWord 8 3, decodeTableWord 24 0x0000A, decodeTableWord 24 0x60000,
      decodeTableWord 80 0x7EFF06030100050000EF, decodeTableWord 80 0x7EFF0603010005FEF2EF,
      decodeTableWord 80 0x7EFF0603010005FEF3EF] =
    [some .init1, none, some (.msgTrack 10), none, some (.playTrack 5), some (.playTrack 5), none] := by
  decide

/-- A placed word is the instruction the very next step runs. -/
theorem test_fetch_words :
    [shown (State.reset.withFetchWord 8 2), shown (State.reset.withFetchWord 24 0x00005),
      shown (State.reset.withFetchWord 80 0x7EFF06030100050000EF)] =
    [[.send ⟨0x7E, 0xFF, 0x06, 0x03, 0x01, 0x00, 0x01, 0xFE, 0xF6, 0xEF⟩], [.dequeued 0x00005, .send ⟨0x7E, 0xFF, 0x06, 0x03, 0x01, 0x00, 0x05, 0xFE, 0xF2, 0xEF⟩], [.catalog (.ok ⟨0x7E, 0xFF, 0x06, 0x03, 0x01, 0x00, 0x05, 0xFE, 0xF2, 0xEF⟩)]] := by
  decide

/-! ### Well-formedness: a term that each check refuses (R6, R59, R85, R88) -/

theorem test_cfgEx_wellFormed : Config.cfgEx.wellFormed = true := by decide

theorem test_config_refused_qCap : ({ Config.cfgEx with qCap := 11 } : Config).wellFormed = false := by decide

theorem test_config_refused_nTracks : ({ Config.cfgEx with nTracks := 65536 } : Config).wellFormed = false := by decide

theorem test_config_refused_initSource_low : ({ Config.cfgEx with initSource := 0 } : Config).wellFormed = false := by decide

theorem test_config_refused_initSource_high : ({ Config.cfgEx with initSource := 6 } : Config).wellFormed = false := by decide

theorem test_config_refused_srcSleep_low : ({ Config.cfgEx with srcSleep := 0 } : Config).wellFormed = false := by decide

theorem test_config_refused_srcSleep_high : ({ Config.cfgEx with srcSleep := 6 } : Config).wellFormed = false := by decide

theorem test_config_refused_srcCard_low : ({ Config.cfgEx with srcCard := 0 } : Config).wellFormed = false := by decide

theorem test_config_refused_srcCard_high : ({ Config.cfgEx with srcCard := 6 } : Config).wellFormed = false := by decide

theorem test_config_refused_volAdjBase : ({ Config.cfgEx with volAdjBase := 225 } : Config).wellFormed = false := by decide

theorem test_config_bounds_accepted :
    ({ Config.cfgEx with nTracks := 65535, initSource := 1, srcSleep := 5, srcCard := 1, volAdjBase := 224 } : Config).wellFormed
      = true := by decide

theorem test_instr_refused :
    [Instr.selectSource 0, .selectSource 6, .volumeAdjust 32, .msgTrack 0, .msgTrack 11].map (Instr.wellFormed Config.cfgEx) =
    [false, false, false, false, false] := by decide

theorem test_instr_accepted :
    [Instr.selectSource 1, .selectSource 5, .volumeAdjust 31, .msgTrack 1, .msgTrack 10].map (Instr.wellFormed Config.cfgEx) =
    [true, true, true, true, true] := by decide

/-! ### The checksum and the codec (95_test_vectors.md 2.1) -/

theorem test_cksum :
    [cksum 0 0 0 0 0 0, cksum 1 0 0 0 0 0, cksum 0xFF 0xFF 0xFF 0xFF 0xFF 0xFF, cksum 0xFF 0x06 0x03 0x01 0x00 0x01,
      cksum 0x80 0x80 0 0 0 0] = [0x0000, 0xFFFF, 0xFA06, 0xFEF6, 0xFF00] := by decide

theorem test_encode :
    [encodeFrame 0x00 false ⟨0x00, 0x00⟩,
      encodeFrame 0xFF true ⟨0xFF, 0xFF⟩,
      encodeFrame 0x56 false ⟨0x12, 0x34⟩,
      encodeFrame 0x00 true ⟨0x00, 0xFB⟩,
      encodeFrame 0xFC false ⟨0x00, 0x00⟩] =
    [⟨0x7E, 0xFF, 0x06, 0x00, 0x00, 0x00, 0x00, 0xFE, 0xFB, 0xEF⟩,
      ⟨0x7E, 0xFF, 0x06, 0xFF, 0x01, 0xFF, 0xFF, 0xFB, 0xFD, 0xEF⟩,
      ⟨0x7E, 0xFF, 0x06, 0x56, 0x00, 0x12, 0x34, 0xFE, 0x5F, 0xEF⟩,
      ⟨0x7E, 0xFF, 0x06, 0x00, 0x01, 0x00, 0xFB, 0xFD, 0xFF, 0xEF⟩,
      ⟨0x7E, 0xFF, 0x06, 0xFC, 0x00, 0x00, 0x00, 0xFD, 0xFF, 0xEF⟩] := by decide

/-- R56: byte 0 is the most significant byte of the 80-bit vector. -/
theorem test_frame_vector :
    frameToBits ⟨0x7E, 0xFF, 0x06, 0x03, 0x01, 0x00, 0x01, 0xFE, 0xF6, 0xEF⟩ = 0x7EFF0603010001FEF6EF ∧ frameOfBits 0x7EFF0603010001FEF6EF = ⟨0x7E, 0xFF, 0x06, 0x03, 0x01, 0x00, 0x01, 0xFE, 0xF6, 0xEF⟩ := by decide

/-! ### The catalog port (95_test_vectors.md 2.2 to 2.4) -/

theorem test_port_raw :
    port Config.cfgEx 0x00 0xFFFF 0xFFFF = [.catalog (.ok ⟨0x7E, 0xFF, 0x06, 0xFF, 0x01, 0xFF, 0xFF, 0xFB, 0xFD, 0xEF⟩)] := by decide

theorem test_port_raw_bypasses_the_source_check :
    port Config.cfgEx 0x00 0x0006 0x0109 = [.catalog (.ok ⟨0x7E, 0xFF, 0x06, 0x09, 0x01, 0x00, 0x06, 0xFE, 0xEB, 0xEF⟩)] := by decide

theorem test_port_next :
    port Config.cfgEx 0x01 0 0 = [.catalog (.ok ⟨0x7E, 0xFF, 0x06, 0x01, 0x01, 0x00, 0x00, 0xFE, 0xF9, 0xEF⟩)] := by decide

theorem test_port_prev :
    port Config.cfgEx 0x02 0 0 = [.catalog (.ok ⟨0x7E, 0xFF, 0x06, 0x02, 0x01, 0x00, 0x00, 0xFE, 0xF8, 0xEF⟩)] := by decide

theorem test_port_playTrack :
    port Config.cfgEx 0x03 0x1234 0 = [.catalog (.ok ⟨0x7E, 0xFF, 0x06, 0x03, 0x01, 0x12, 0x34, 0xFE, 0xB1, 0xEF⟩)] := by decide

theorem test_port_playTrack_256 :
    port Config.cfgEx 0x03 0x0100 0xFFFF = [.catalog (.ok ⟨0x7E, 0xFF, 0x06, 0x03, 0x01, 0x01, 0x00, 0xFE, 0xF6, 0xEF⟩)] := by decide

theorem test_port_volInc :
    port Config.cfgEx 0x04 0 0 = [.catalog (.ok ⟨0x7E, 0xFF, 0x06, 0x04, 0x01, 0x00, 0x00, 0xFE, 0xF6, 0xEF⟩)] := by decide

theorem test_port_volDec :
    port Config.cfgEx 0x05 0 0 = [.catalog (.ok ⟨0x7E, 0xFF, 0x06, 0x05, 0x01, 0x00, 0x00, 0xFE, 0xF5, 0xEF⟩)] := by decide

theorem test_port_setVolume :
    port Config.cfgEx 0x06 0x0114 0 = [.catalog (.ok ⟨0x7E, 0xFF, 0x06, 0x06, 0x01, 0x00, 0x14, 0xFE, 0xE0, 0xEF⟩)] := by decide

theorem test_port_setVolume_255 :
    port Config.cfgEx 0x06 0x00FF 0 = [.catalog (.ok ⟨0x7E, 0xFF, 0x06, 0x06, 0x01, 0x00, 0xFF, 0xFD, 0xF5, 0xEF⟩)] := by decide

theorem test_port_setEq :
    port Config.cfgEx 0x07 0x1234 0 = [.catalog (.ok ⟨0x7E, 0xFF, 0x06, 0x07, 0x01, 0x12, 0x34, 0xFE, 0xAD, 0xEF⟩)] := by decide

theorem test_port_loopMode :
    port Config.cfgEx 0x08 0xFFFF 0 = [.catalog (.ok ⟨0x7E, 0xFF, 0x06, 0x08, 0x01, 0xFF, 0xFF, 0xFC, 0xF4, 0xEF⟩)] := by decide

theorem test_port_selectSource_5 :
    port Config.cfgEx 0x09 0x0005 0 = [.catalog (.ok ⟨0x7E, 0xFF, 0x06, 0x09, 0x01, 0x00, 0x05, 0xFE, 0xEC, 0xEF⟩)] := by decide

theorem test_port_standby :
    port Config.cfgEx 0x0A 0 0 = [.catalog (.ok ⟨0x7E, 0xFF, 0x06, 0x0A, 0x01, 0x00, 0x00, 0xFE, 0xF0, 0xEF⟩)] := by decide

theorem test_port_normal :
    port Config.cfgEx 0x0B 0 0 = [.catalog (.ok ⟨0x7E, 0xFF, 0x06, 0x0B, 0x01, 0x00, 0x00, 0xFE, 0xEF, 0xEF⟩)] := by decide

theorem test_port_reset :
    port Config.cfgEx 0x0C 0 0 = [.catalog (.ok ⟨0x7E, 0xFF, 0x06, 0x0C, 0x01, 0x00, 0x00, 0xFE, 0xEE, 0xEF⟩)] := by decide

theorem test_port_resume :
    port Config.cfgEx 0x0D 0 0 = [.catalog (.ok ⟨0x7E, 0xFF, 0x06, 0x0D, 0x00, 0x00, 0x00, 0xFE, 0xEE, 0xEF⟩)] := by decide

theorem test_port_pause :
    port Config.cfgEx 0x0E 0 0 = [.catalog (.ok ⟨0x7E, 0xFF, 0x06, 0x0E, 0x00, 0x00, 0x00, 0xFE, 0xED, 0xEF⟩)] := by decide

theorem test_port_playFolder :
    port Config.cfgEx 0x0F 0xAB02 0xCD0A = [.catalog (.ok ⟨0x7E, 0xFF, 0x06, 0x0F, 0x01, 0x02, 0x0A, 0xFE, 0xDF, 0xEF⟩)] := by decide

theorem test_port_playFolder_126_239 :
    port Config.cfgEx 0x0F 0x007E 0x00EF = [.catalog (.ok ⟨0x7E, 0xFF, 0x06, 0x0F, 0x01, 0x7E, 0xEF, 0xFD, 0x7E, 0xEF⟩)] := by decide

theorem test_port_volumeAdjust_31 :
    port Config.cfgEx 0x10 0x011F 0 = [.catalog (.ok ⟨0x7E, 0xFF, 0x06, 0x10, 0x01, 0x00, 0x1F, 0xFE, 0xCB, 0xEF⟩)] := by decide

theorem test_port_repeatPlay :
    port Config.cfgEx 0x11 0x1234 0 = [.catalog (.ok ⟨0x7E, 0xFF, 0x06, 0x11, 0x01, 0x12, 0x34, 0xFE, 0xA3, 0xEF⟩)] := by decide

theorem test_port_playMp3Folder :
    port Config.cfgEx 0x12 0xFFFF 0 = [.catalog (.ok ⟨0x7E, 0xFF, 0x06, 0x12, 0x01, 0xFF, 0xFF, 0xFC, 0xEA, 0xEF⟩)] := by decide

theorem test_port_insertAdvert :
    port Config.cfgEx 0x13 0x1234 0 = [.catalog (.ok ⟨0x7E, 0xFF, 0x06, 0x13, 0x01, 0x12, 0x34, 0xFE, 0xA1, 0xEF⟩)] := by decide

theorem test_port_playFolderLarge :
    port Config.cfgEx 0x14 0x0012 0x1345 = [.catalog (.ok ⟨0x7E, 0xFF, 0x06, 0x14, 0x01, 0x23, 0x45, 0xFE, 0x7E, 0xEF⟩)] := by decide

theorem test_port_playFolderLarge_folder_16 :
    port Config.cfgEx 0x14 0x0010 0x0001 = [.catalog (.ok ⟨0x7E, 0xFF, 0x06, 0x14, 0x01, 0x00, 0x01, 0xFE, 0xE5, 0xEF⟩)] := by decide

theorem test_port_stopAdvert :
    port Config.cfgEx 0x15 0 0 = [.catalog (.ok ⟨0x7E, 0xFF, 0x06, 0x15, 0x01, 0x00, 0x00, 0xFE, 0xE5, 0xEF⟩)] := by decide

theorem test_port_stop :
    port Config.cfgEx 0x16 0 0 = [.catalog (.ok ⟨0x7E, 0xFF, 0x06, 0x16, 0x01, 0x00, 0x00, 0xFE, 0xE4, 0xEF⟩)] := by decide

theorem test_port_repeatFolder :
    port Config.cfgEx 0x17 0x1234 0 = [.catalog (.ok ⟨0x7E, 0xFF, 0x06, 0x17, 0x01, 0x12, 0x34, 0xFE, 0x9D, 0xEF⟩)] := by decide

theorem test_port_randomAll :
    port Config.cfgEx 0x18 0 0 = [.catalog (.ok ⟨0x7E, 0xFF, 0x06, 0x18, 0x01, 0x00, 0x00, 0xFE, 0xE2, 0xEF⟩)] := by decide

theorem test_port_repeatCurrent :
    port Config.cfgEx 0x19 0x1234 0 = [.catalog (.ok ⟨0x7E, 0xFF, 0x06, 0x19, 0x01, 0x12, 0x34, 0xFE, 0x9B, 0xEF⟩)] := by decide

theorem test_port_setDac :
    port Config.cfgEx 0x1A 0x1234 0 = [.catalog (.ok ⟨0x7E, 0xFF, 0x06, 0x1A, 0x01, 0x12, 0x34, 0xFE, 0x9A, 0xEF⟩)] := by decide

theorem test_port_sleep :
    port Config.cfgEx 0x1B 0xFFFF 0xFFFF = [.catalog (.ok ⟨0x7E, 0xFF, 0x06, 0x09, 0x01, 0x00, 0x04, 0xFE, 0xED, 0xEF⟩)] := by decide

theorem test_port_wake :
    port Config.cfgEx 0x1C 0 0 = [.catalog (.ok ⟨0x7E, 0xFF, 0x06, 0x09, 0x01, 0x00, 0x02, 0xFE, 0xEF, 0xEF⟩)] := by decide

theorem test_port_selectSource_rejects :
    [port Config.cfgEx 0x09 0x0000 0, port Config.cfgEx 0x09 0x0006 0, port Config.cfgEx 0x09 0x0100 0] =
    [[.catalog (.reject .sourceRange)], [.catalog (.reject .sourceRange)], [.catalog (.reject .sourceRange)]] := by decide

/-- VOLUME_ADJUST at 32, and at 31 on the largest base (R88). -/
theorem test_port_volumeAdjust_edges :
    port Config.cfgEx 0x10 0x0020 0 = [.catalog (.reject .gainRange)] ∧
    port { Config.cfgEx with volAdjBase := 224 } 0x10 0x001F 0 = [.catalog (.ok ⟨0x7E, 0xFF, 0x06, 0x10, 0x01, 0x00, 0xFF, 0xFD, 0xEB, 0xEF⟩)] ∧
    port { Config.cfgEx with volAdjBase := 0x20, volAdjMsb := 0x01 } 0x10 0x001F 0 = [.catalog (.ok ⟨0x7E, 0xFF, 0x06, 0x10, 0x01, 0x01, 0x3F, 0xFE, 0xAA, 0xEF⟩)] := by decide

theorem test_port_reserved :
    [port Config.cfgEx 0x1D 0 0, port Config.cfgEx 0x1E 0xFFFF 0xFFFF, port Config.cfgEx 0x1F 0 0] =
    [[.catalog (.reject .badOp)], [.catalog (.reject .badOp)], [.catalog (.reject .badOp)]] := by decide

theorem test_port_codes :
    [RejectCode.sourceRange, .gainRange, .badOp].map rejectCode = [1, 2, 3] ∧
    catFrame (.reject .gainRange) = 0 ∧ catErr (.ok ⟨0x7E, 0xFF, 0x06, 0x10, 0x01, 0x00, 0xFF, 0xFD, 0xEB, 0xEF⟩) = 0 := by decide

/-! ### The Dispatcher: one message, one step (95_test_vectors.md 2.6) -/

theorem test_msgTrack :
    sentOf (running 20 [0x0000A]) = some (20, 0, [⟨0x7E, 0xFF, 0x06, 0x03, 0x01, 0x00, 0x0A, 0xFE, 0xED, 0xEF⟩]) := by decide

theorem test_msgPause :
    sentOf (running 20 [0x1BEEF]) = some (20, 0, [⟨0x7E, 0xFF, 0x06, 0x0E, 0x00, 0x00, 0x00, 0xFE, 0xED, 0xEF⟩]) := by decide

theorem test_msgResume :
    sentOf (running 20 [0x20000]) = some (20, 0, [⟨0x7E, 0xFF, 0x06, 0x0D, 0x00, 0x00, 0x00, 0xFE, 0xEE, 0xEF⟩]) := by decide

theorem test_msgStop :
    sentOf (running 20 [0x30000]) = some (20, 0, [⟨0x7E, 0xFF, 0x06, 0x16, 0x01, 0x00, 0x00, 0xFE, 0xE4, 0xEF⟩]) := by decide

theorem test_msgVolup :
    sentOf (running 30 [0x40000]) = some (31, 0, [⟨0x7E, 0xFF, 0x06, 0x06, 0x01, 0x00, 0x1F, 0xFE, 0xD5, 0xEF⟩]) := by decide

theorem test_msgVolup_wraps :
    sentOf (running 255 [0x40000]) = some (0, 0, [⟨0x7E, 0xFF, 0x06, 0x06, 0x01, 0x00, 0x00, 0xFE, 0xF4, 0xEF⟩]) := by decide

theorem test_msgVoldown :
    sentOf (running 20 [0x50000]) = some (19, 0, [⟨0x7E, 0xFF, 0x06, 0x06, 0x01, 0x00, 0x13, 0xFE, 0xE1, 0xEF⟩]) := by decide

theorem test_msgVoldown_wraps :
    sentOf (running 0 [0x50000]) = some (255, 0, [⟨0x7E, 0xFF, 0x06, 0x06, 0x01, 0x00, 0xFF, 0xFD, 0xF5, 0xEF⟩]) := by decide

/-- The head of the queue is taken, the rest waits (R36). -/
theorem test_dequeue_takes_the_head :
    shown (running 20 [0x10000, 0x00005]) = [.dequeued 0x10000, .send ⟨0x7E, 0xFF, 0x06, 0x0E, 0x00, 0x00, 0x00, 0xFE, 0xED, 0xEF⟩] := by decide

theorem test_empty_queue_waits : shown (running 20 []) = [.noStep] := by decide

theorem test_init0 :
    sentOf (seqState .init 0 .idle 0 .dispatcher) = some (20, 0, [⟨0x7E, 0xFF, 0x06, 0x09, 0x01, 0x00, 0x02, 0xFE, 0xEF, 0xEF⟩]) := by decide

theorem test_init1 :
    sentOf (seqState .init 1 .idle 0 .dispatcher) = some (20, 0, [⟨0x7E, 0xFF, 0x06, 0x06, 0x01, 0x00, 0x14, 0xFE, 0xE0, 0xEF⟩]) := by decide

theorem test_init2 :
    sentOf (seqState .init 2 .idle 0 .dispatcher) = some (20, 0, [⟨0x7E, 0xFF, 0x06, 0x03, 0x01, 0x00, 0x01, 0xFE, 0xF6, 0xEF⟩]) := by decide

/-! ### Sink answers, ticks, the end of pacing, reset (95_test_vectors.md 2.7) -/

theorem test_sink_ok :
    [seqOf (seqState .init 0 .send 0 (.sink .send .ok)), seqOf (seqState .init 0 .flush 0 (.sink .flush .ok)),
      seqOf (seqState .run 2 .send 0 (.sink .send .ok)), seqOf (seqState .run 2 .flush 0 (.sink .flush .ok))] =
    [some (.init, 0, .flush, 0), some (.init, 0, .pace, 3), some (.run, 2, .flush, 0), some (.run, 2, .pace, 3)] := by
  decide

theorem test_sink_err :
    [seqOf (seqState .init 0 .send 0 (.sink .send .err)), seqOf (seqState .init 1 .flush 0 (.sink .flush .err)),
      seqOf (seqState .run 2 .send 0 (.sink .send .err)), seqOf (seqState .run 2 .flush 0 (.sink .flush .err))] =
    [some (.halt, 0, .idle, 0), some (.halt, 1, .idle, 0), some (.run, 2, .pace, 3), some (.run, 2, .pace, 3)] := by
  decide

theorem test_sink_err_shows :
    shown (seqState .run 2 .flush 0 (.sink .flush .err)) = [.answered .flush .err, .txError .flush] ∧
    shown (seqState .run 2 .send 0 (.sink .send .ok)) = [.answered .send .ok, .flush] := by decide

/-- `err_kind` in the last column of 2.7: 0 for `send_err`, 1 for `flush_err`; none without an error. -/
theorem test_err_kind :
    [.sink .send .err, .sink .send .ok].map (errOf .send) = [some 0, none] ∧
    [.sink .flush .err, .sink .flush .ok, .tick].map (errOf .flush) = [some 1, none, none] := by decide

theorem test_tick :
    [seqOf (seqState .run 2 .pace 3 .tick), seqOf (seqState .run 2 .pace 1 .tick), seqOf (seqState .run 2 .pace 0 .tick),
      seqOf (seqState .run 2 .idle 0 .tick), seqOf (seqState .halt 1 .idle 0 .tick)] =
    [some (.run, 2, .pace, 2), some (.run, 2, .pace, 0), some (.run, 2, .pace, 0), some (.run, 2, .idle, 0),
      some (.halt, 1, .idle, 0)] := by decide

theorem test_end_of_pacing :
    [seqOf (seqState .init 0 .pace 0 .dispatcher), seqOf (seqState .init 1 .pace 0 .dispatcher), seqOf (seqState .init 2 .pace 0 .dispatcher),
      seqOf (seqState .run 2 .pace 2 .dispatcher), seqOf (seqState .run 2 .pace 0 .dispatcher)] =
    [some (.init, 1, .idle, 0), some (.init, 2, .idle, 0), some (.run, 2, .idle, 0), some (.run, 2, .pace, 2),
      some (.run, 2, .idle, 0)] := by decide

theorem test_halt_has_no_step :
    [shown (seqState .halt 1 .idle 0 .dispatcher), shown (seqState .halt 1 .idle 0 (.sink .send .ok))] = [[.noStep], [.noStep]] := by
  decide

theorem test_reset_lifts_halt :
    seqOf (seqState .halt 1 .idle 0 .reset) = some (.init, 0, .idle, 0) := by decide

/-- R170: the handshakes with a call pending, on a tick that is a reset and on one that is not. -/
theorem test_handshakes_on_the_reset_tick :
    [Action.reset, .dispatcher].map (fun a => (fun s u => (txSendReq s (rstInput s), txFlushReq u (rstInput u),
      enqReady s 0x10000 (rstInput s))) (seqState .run 2 .send 0 a) (seqState .run 2 .flush 0 a)) =
    [(false, false, false), (true, true, true)] := by decide

theorem test_stray_answer :
    [shown (seqState .run 2 .flush 0 (.sink .send .ok)), shown (seqState .run 2 .idle 0 (.sink .flush .err))] =
    [[.noStep], [.noStep]] := by decide

theorem test_faults :
    step (running 20 [0x60000]) = .fault .malformedInQueue ∧
    step (seqState .init 3 .idle 0 .dispatcher) = .fault .illegalInitIdx ∧
    step (seqState .init 3 .pace 0 .dispatcher) = .fault .illegalInitIdx := ⟨rfl, rfl, rfl⟩

/-! ### The producer port (95_test_vectors.md 2.5) -/

/-- Ten queued words: a full queue. -/
def tenWords : List MsgWord := List.replicate 10 0x10000

def offered (q : List MsgWord) (w : MsgWord) : List Event :=
  shown { State.reset with q := q, sched := [.offer 0 w] }

theorem test_offer_valid :
    [offered [] 0x00001, offered [] 0x0000A, offered [] 0x1BEEF, offered [] 0x50000] =
    [[.enqueued 0x00001], [.enqueued 0x0000A], [.enqueued 0x1BEEF], [.enqueued 0x50000]] := by decide

theorem test_offer_malformed :
    [offered [] 0x00000, offered [] 0x0000B, offered [] 0x0FFFF, offered tenWords 0x60000, offered tenWords 0x70005] =
    [[.dropped 0x00000], [.dropped 0x0000B], [.dropped 0x0FFFF], [.dropped 0x60000], [.dropped 0x70005]] := by decide

theorem test_offer_suspended :
    offered tenWords 0x30000 = [.suspended 0x30000] ∧ offered tenWords.tail 0x30000 = [.enqueued 0x30000] := by decide

/-! ### Witnesses: the hypotheses of the obligations, met together -/

/-- Hypothesis "the configuration is well-formed" of the catalog obligations, of ResetValues and of
InvariantHoldsAtReset. -/
theorem witness_wellFormed_configuration :
    State.reset.cfg.wellFormed = true ∧ (State.resetFor { Config.cfgEx with volAdjBase := 224 }).cfg.wellFormed = true := by
  decide

theorem witness_EncodeOfDecodeIsCanonical :
    decode (.request 0x03 0x1234 0xFFFF) = .instr (.playTrack 0x1234) ∧ decode (.message 0x1BEEF) = .instr .msgPause := by
  decide

/-- A frame of a specific row and one that is RAW's alone. -/
theorem witness_WellFormedFramesAreCatalogFrames :
    Config.cfgEx.wellFormed = true ∧ frameWellFormed ⟨0x7E, 0xFF, 0x06, 0x03, 0x01, 0x00, 0x01, 0xFE, 0xF6, 0xEF⟩ = true ∧ frameWellFormed ⟨0x7E, 0xFF, 0x06, 0x09, 0x01, 0x00, 0x06, 0xFE, 0xEB, 0xEF⟩ = true ∧
    State.reset.cfg = Config.cfgEx := by decide

theorem witness_FreeBytesDetermineTheFrame :
    frameWellFormed ⟨0x7E, 0xFF, 0x06, 0x03, 0x01, 0x00, 0x01, 0xFE, 0xF6, 0xEF⟩ = true ∧ (⟨0x7E, 0xFF, 0x06, 0x03, 0x01, 0x00, 0x01, 0xFE, 0xF6, 0xEF⟩ : Frame).opcode = 0x03 := by decide

/-- SelectSourceValidates: 1, 5 and `0x0103` on the one side, 0, 6 and `0x0100` on the other. -/
theorem witness_SelectSourceValidates :
    ([0x0001, 0x0005, 0x0103].all fun a : Word => decide (1 ≤ a.toNat % 256 ∧ a.toNat % 256 ≤ 5)) = true ∧
    ([0x0000, 0x0006, 0x0100].all fun a : Word => decide (a.toNat % 256 < 1 ∨ 5 < a.toNat % 256)) = true := by decide

/-- VolumeAdjustValidates: 0 and 31 on the one side, 32 and 255 on the other. -/
theorem witness_VolumeAdjustValidates :
    ([0x0000, 0x001F, 0x011F].all fun a : Word => decide (a.toNat % 256 ≤ 31)) = true ∧
    ([0x0020, 0x00FF].all fun a : Word => decide (31 < a.toNat % 256)) = true := by decide

/-- ReservedSelectorsAreRejected, at both ends of the range; CatalogPortFollowsTheTable. -/
theorem witness_ReservedSelectorsAreRejected :
    ∀ sel ∈ [(0x1D : BitVec 5), 0x1F], let s := { State.reset with sched := [.catalog sel 0 0] };
      s.cfg.wellFormed = true ∧ s.sched = .catalog sel 0 0 :: [] ∧ 0x1D ≤ sel.toNat := by decide

theorem witness_CatalogPortFollowsTheTable :
    let s := { State.reset with sched := [.catalog 0x14 0x0002 0x000A] };
    s.cfg.wellFormed = true ∧ s.sched = .catalog 0x14 0x0002 0x000A :: [] := by decide

theorem witness_CatalogOperationsArePure :
    isCatalogOp (.volumeAdjust 3) = true ∧ State.reset.cfg.wellFormed = true := by decide

/-- A rejected operand and an accepted one. -/
theorem witness_CatalogRejectsExactlyInvalidOperands :
    (isCatalogOp (.selectSource 6) = true ∧
      exec (.selectSource 6) State.reset = .next { State.reset with obs := State.reset.obs ++ [.catalog (.reject .sourceRange)] }) ∧
    (isCatalogOp (.playTrack 1) = true ∧
      exec (.playTrack 1) State.reset = .next { State.reset with obs := State.reset.obs ++ [.catalog (.ok ⟨0x7E, 0xFF, 0x06, 0x03, 0x01, 0x00, 0x01, 0xFE, 0xF6, 0xEF⟩)] }) :=
  ⟨⟨rfl, rfl⟩, ⟨rfl, rfl⟩⟩

theorem witness_CatalogUsersDisturbNothing :
    ∃ t, step { State.reset with sched := [.catalog 0x01 0 0, .dispatcher] } = .next t := ⟨_, rfl⟩

/-- The three clauses of StepRunsTheDecodedInstruction. -/
theorem witness_StepRunsTheDecodedInstruction :
    (let s := { State.reset with sched := [.catalog 0x01 0 0] };
      s.cfg.wellFormed = true ∧ s.sched = .catalog 0x01 0 0 :: [] ∧ decode (.request 0x01 0 0) = .instr .next) ∧
    (let s := running 20 [0x10000, 0x00005];
      s.cfg.wellFormed = true ∧ nextAction s = .dispatcher ∧ s.phase = .run ∧ s.st = .idle ∧
        s.q = (0x10000 : MsgWord) :: [0x00005] ∧ decode (.message 0x10000) = .instr .msgPause) ∧
    (let s := State.reset;
      s.cfg.wellFormed = true ∧ nextAction s = .dispatcher ∧ s.phase = .init ∧ s.st = .idle ∧
        decode (.initStep s.initIdx) = .instr .init0) := by decide

theorem witness_IllFormedConfigurationIsRefused :
    (State.resetFor { Config.cfgEx with volAdjBase := 225 }).cfg.wellFormed = false := by decide

/-- InitStepsSendTheirFrame, one state for each clause. -/
theorem witness_InitStepsSendTheirFrame :
    ∀ k ∈ [(0 : BitVec 2), 1, 2], let s := seqState .init k .idle 0 .dispatcher;
      s.cfg.wellFormed = true ∧ s.phase = .init ∧ s.st = .idle ∧ s.initIdx = k := by decide

/-- TransportAndTrackMessagesSendTheirFrame and VolumeMessagesStepThenSend, at both ends of `VOL`. -/
theorem witness_messages_of_the_Dispatcher :
    ∀ v ∈ [(0 : Byte), 255], let s := running v [];
      s.cfg.wellFormed = true ∧ s.phase = .run ∧ s.st = .idle ∧ s.vol = v := by decide

/-- DispatcherInstructionsWaitWhenNotEnabled: a message while a call is pending and in phase INIT, an initialization
step in phase RUN and one out of its turn. -/
theorem witness_DispatcherInstructionsWaitWhenNotEnabled :
    State.reset.cfg.wellFormed = true ∧ ¬Enabled .msgPause (seqState .run 2 .send 0 .dispatcher) ∧
    ¬Enabled .msgPause (seqState .init 0 .idle 0 .dispatcher) ∧ ¬Enabled .init2 (seqState .run 2 .idle 0 .dispatcher) ∧
    ¬Enabled .init1 (seqState .init 0 .idle 0 .dispatcher) := by
  simp [Enabled, encode, seqState, witness_wellFormed_configuration.1]

theorem witness_InitializationDispatch :
    ∀ k ∈ [(0 : BitVec 2), 2], let s := seqState .init k .idle 0 .dispatcher;
      s.cfg.wellFormed = true ∧ nextAction s = .dispatcher ∧ s.phase = .init ∧ s.st = .idle ∧ s.initIdx.toNat ≤ 2 := by
  decide

/-- DequeueAndDispatch: an empty queue, tags 0 and 5, tag 6. -/
theorem witness_DequeueAndDispatch :
    (∀ q ∈ [[], [(0x0000A : MsgWord)], [0x50000], [0x60000]], let s := running 20 q;
      s.cfg.wellFormed = true ∧ nextAction s = .dispatcher ∧ s.phase = .run ∧ s.st = .idle ∧ s.q = q) ∧
    (msgTag 0x0000A).toNat = 0 ∧ (msgTag 0x50000).toNat = 5 ∧ (msgTag 0x60000).toNat = 6 := by decide

theorem witness_SinkOkAnswers :
    (let s := seqState .init 0 .send 0 (.sink .send .ok);
      s.cfg.wellFormed = true ∧ (s.phase = .halt → s.st = .idle) ∧ s.st = .send ∧ s.sched = .sink .send .ok :: []) ∧
    (let s := seqState .run 2 .flush 0 (.sink .flush .ok);
      s.cfg.wellFormed = true ∧ (s.phase = .halt → s.st = .idle) ∧ s.st = .flush ∧ s.sched = .sink .flush .ok :: []) := by
  decide

/-- TransportErrorsAreTaken: each call, in each phase. -/
theorem witness_TransportErrorsAreTaken :
    ∀ p ∈ [Phase.init, Phase.run],
      (let s := seqState p 1 .send 0 (.sink .send .err);
        s.cfg.wellFormed = true ∧ s.sched = .sink .send .err :: [] ∧ s.st = .send ∧ s.phase = p) ∧
      (let s := seqState p 1 .flush 0 (.sink .flush .err);
        s.cfg.wellFormed = true ∧ s.sched = .sink .flush .err :: [] ∧ s.st = .flush ∧ s.phase = p) := by decide

theorem witness_StrayAnswersAreIgnored :
    let s := seqState .run 2 .flush 0 (.sink .send .ok);
    s.cfg.wellFormed = true ∧ s.sched = .sink .send .ok :: [] ∧
      ¬(SinkCall.send = .send ∧ s.st = .send) ∧ ¬(SinkCall.send = .flush ∧ s.st = .flush) := by decide

/-- TickCountsThePacingDelay: a count of 1, a count of 0, no pacing. -/
theorem witness_TickCountsThePacingDelay :
    (let s := seqState .run 2 .pace 1 .tick;
      s.cfg.wellFormed = true ∧ (s.phase = .halt → s.st = .idle) ∧ s.sched = .tick :: [] ∧ s.st = .pace ∧ 0 < s.paceCnt) ∧
    (let s := seqState .run 2 .pace 0 .tick;
      s.cfg.wellFormed = true ∧ (s.phase = .halt → s.st = .idle) ∧ s.sched = .tick :: [] ∧
        ¬(s.st = .pace ∧ 0 < s.paceCnt)) := by decide

/-- The four clauses of PacingDelayEnds, INIT_IDX at 0 and 1 in the first. -/
theorem witness_PacingDelayEnds :
    (∀ x ∈ [(Phase.init, (0 : BitVec 2), 0), (.init, 1, 0), (.init, 2, 0), (.run, 2, 0), (.run, 2, 1)],
      let s := seqState x.1 x.2.1 .pace x.2.2 .dispatcher;
      s.cfg.wellFormed = true ∧ (s.phase = .halt → s.st = .idle) ∧ s.initIdx.toNat ≤ 2 ∧
        nextAction s = .dispatcher ∧ s.st = .pace ∧ s.phase = x.1 ∧ s.initIdx = x.2.1 ∧ s.paceCnt = x.2.2) := by decide

/-- OffersAtTheProducerPort: TRACK(0) and TRACK(11), TRACK(1) and TRACK(10) with nine words queued, VOLDOWN with
ten. -/
theorem witness_OffersAtTheProducerPort :
    [0x00000, 0x0000B, 0x60000, 0x70005].map (msgValid Config.cfgEx) = [false, false, false, false] ∧
    [0x00001, 0x0000A, 0x10000, 0x50000].map (msgValid Config.cfgEx) = [true, true, true, true] ∧
    tenWords.tail.length = 9 ∧ tenWords.length = 10 ∧
    (let s := { State.reset with q := tenWords, sched := [.offer 0 0x50000] };
      s.cfg.wellFormed = true ∧ s.sched = .offer 0 0x50000 :: []) := by decide

/-- ResetStepSetsEveryRegister: from HALT with a full queue, and with each call pending. -/
theorem witness_ResetStepSetsEveryRegister :
    (let s := { seqState .halt 1 .idle 0 .reset with q := tenWords, vol := 255 };
      s.cfg.wellFormed = true ∧ s.sched = .reset :: []) ∧
    ∀ st ∈ [St.send, .flush], (seqState .run 2 st 0 .reset).cfg.wellFormed = true ∧
      (seqState .run 2 st 0 .reset).sched = .reset :: [] := by decide

/-- The invariant holds somewhere besides the reset state: two words queued, a frame in flight. -/
theorem witness_invariant :
    Inv { seqState .run 2 .send 0 (.sink .send .ok) with q := [0x0000A, 0x40000], frameReg := ⟨0x7E, 0xFF, 0x06, 0x03, 0x01, 0x00, 0x01, 0xFE, 0xF6, 0xEF⟩ } := by
  refine ⟨by decide, by decide, ?_, by decide, by decide, by decide, by decide, by decide⟩
  intro w hw
  simp only [List.mem_cons, List.not_mem_nil, or_false] at hw
  rcases hw with rfl | rfl <;> decide

/-- EveryStepKeepsTheInvariant and InvariantStatesAlwaysStep. -/
theorem witness_EveryStepKeepsTheInvariant :
    ∃ t, step { seqState .run 2 .send 0 (.sink .send .ok) with q := [0x0000A, 0x40000], frameReg := ⟨0x7E, 0xFF, 0x06, 0x03, 0x01, 0x00, 0x01, 0xFE, 0xF6, 0xEF⟩ } = .next t :=
  ⟨_, rfl⟩

/-- FaultsOnlyWhereTheSpecSays: both faults are reached from some state. -/
theorem witness_FaultsOnlyWhereTheSpecSays :
    step (running 20 [0x70005]) = .fault .malformedInQueue ∧
    step (seqState .init 3 .pace 0 .dispatcher) = .fault .illegalInitIdx := ⟨rfl, rfl⟩

theorem witness_OnlyVolumeMessagesWriteVol :
    ∃ t, step (running 255 [0x40000]) = .next t ∧ t.vol ≠ 255 := ⟨_, rfl, by decide⟩

/-- PhaseTransitions: one state for each clause. -/
theorem witness_PhaseTransitions :
    (∃ t, step (seqState .halt 1 .idle 0 .reset) = .next t ∧ t.phase ≠ .halt) ∧
    (∃ t, step (seqState .init 2 .pace 0 .dispatcher) = .next t ∧ t.phase ≠ .init) ∧
    (∃ t, step (seqState .init 0 .send 0 (.sink .send .err)) = .next t ∧ t.phase ≠ .init) :=
  ⟨⟨_, rfl, by decide⟩, ⟨_, rfl, by decide⟩, ⟨_, rfl, by decide⟩⟩

theorem witness_SentFramesAreWellFormed :
    ∃ t, step State.reset = .next t ∧
      Event.send ⟨0x7E, 0xFF, 0x06, 0x09, 0x01, 0x00, 0x02, 0xFE, 0xEF, 0xEF⟩ ∈ t.obs := ⟨_, rfl, by decide⟩

/-- StaleFrameIsNeverRead: two states with different FRAME_REG, outside SEND. -/
theorem witness_StaleFrameIsNeverRead :
    let s := seqState .run 2 .flush 0 (.sink .flush .ok);
    let s' := { s with frameReg := ⟨0x7E, 0xFF, 0x06, 0x03, 0x01, 0x00, 0x01, 0xFE, 0xF6, 0xEF⟩, freeCtr := 7 };
    SameBlock s s' ∧ s.sched = s'.sched ∧ s.frameReg ≠ s'.frameReg := by
  refine ⟨⟨rfl, rfl, rfl, rfl, rfl, rfl, rfl, ?_⟩, rfl, ?_⟩ <;> decide

/-- A short run without a reset: one enqueue, one dequeue. Meets the hypotheses of QueueIsFirstInFirstOut,
VolCountsVolumeMessages, OneFrameForEachMessage and SinkCallsKeepTheirOrder. -/
theorem witness_runs :
    ∃ t es, (running 255 []).phase = .run ∧
      runShows 2 { running 255 [] with sched := [.offer 0 0x40000, .dispatcher] } = some (t, es) ∧ noReset es = true ∧
      dequeuedWords es = [0x40000] ∧ t.vol = 0 := ⟨_, _, rfl, rfl, by decide, by decide, by decide⟩

/-- PacingSeparatesFrames: a frame ends, three ticks pass, the next frame is sent. -/
theorem witness_PacingSeparatesFrames :
    ∃ s' t es,
      step { seqState .run 2 .flush 0 (.sink .flush .ok) with
        q := [0x10000], sched := .sink .flush .ok :: List.replicate 3 .tick ++ [.dispatcher, .dispatcher] } = .next s' ∧
      endsFrame s'.obs = true ∧ runShows 5 s' = some (t, es) ∧ noReset es = true ∧ sentFrames es ≠ [] :=
  ⟨_, _, _, rfl, by decide, rfl, by decide, by decide⟩

theorem witness_InitializationFramesComeFirst :
    ∃ t es, runShows 1 { State.resetFor Config.cfgEx with sched := [.dispatcher] } = some (t, es) ∧ noReset es = true :=
  ⟨_, _, rfl, by decide⟩

theorem witness_HaltIsForGood :
    ∃ t es, (seqState .halt 1 .idle 0 (.offer 0 0x10000)).phase = .halt ∧
      runShows 2 (seqState .halt 1 .idle 0 (.offer 0 0x10000)) = some (t, es) ∧ noReset es = true ∧ t.q = [0x10000] :=
  ⟨_, _, rfl, rfl, by decide, by decide⟩

theorem witness_OneRoundServesOneMessage :
    let s := { running 255 [0x40000, 0x10000] with sched := cleanRound Config.cfgEx ++ [Action.reset] };
    s.cfg.wellFormed = true ∧ s.phase = .run ∧ s.st = .idle ∧ s.q = (0x40000 : MsgWord) :: [0x10000] ∧
      (msgTag 0x40000).toNat ≤ 5 ∧ s.sched = cleanRound s.cfg ++ [Action.reset] := by decide

/-- FlagsAndPortsShowTheState: a full queue in HALT meets the invariant. -/
theorem witness_FlagsAndPortsShowTheState :
    Inv { seqState .halt 1 .idle 0 .dispatcher with q := tenWords } ∧
    qFull { seqState .halt 1 .idle 0 .dispatcher with q := tenWords } = true := by
  refine ⟨⟨by decide, by decide, ?_, by decide, by decide, by decide, by decide, by decide⟩, by decide⟩
  intro w hw
  rw [List.eq_of_mem_replicate hw]
  decide

/-- ErrStrobeShowsATransportError: a step with the strobe for each kind, and one without. -/
theorem witness_ErrStrobeShowsATransportError :
    (∃ t, step (seqState .init 0 .send 0 (.sink .send .err)) = .next t ∧ errStrobe t = true) ∧
    (∃ t, step (seqState .run 2 .flush 0 (.sink .flush .err)) = .next t ∧ errStrobe t = true) ∧
    (∃ t, step (seqState .run 2 .flush 0 (.sink .flush .ok)) = .next t ∧ errStrobe t = false) :=
  ⟨⟨_, rfl, rfl⟩, ⟨_, rfl, rfl⟩, ⟨_, rfl, rfl⟩⟩

/-- CleanBootReachesRun, for a configuration without a pacing delay. -/
theorem witness_CleanBootReachesRun :
    ({ Config.cfgEx with paceTicks := 0 } : Config).wellFormed = true := by decide

end Sys2Proof.Tests
end

section
/-! PROOFS, 00_scope.md. The bounds of R6 in numbers, and the refusal of an ill-formed configuration by the step and by
every meaning. -/

namespace Sys2Proof.Proofs.Scope

open Sys2Proof.Machine

/-! ### The bounds of a well-formed configuration -/

/-- The range of a source operand in numbers (R6, R85). -/
@[simp] theorem sourceInRange_iff (src : Byte) :
    sourceInRange src = true ↔ 1 ≤ src.toNat ∧ src.toNat ≤ 5 := by
  simp [sourceInRange]

/-- R6. -/
theorem config_wellFormed_iff (c : Config) :
    c.wellFormed = true ↔
      c.qCap = 10 ∧ c.nTracks ≤ 65535 ∧ (1 ≤ c.initSource.toNat ∧ c.initSource.toNat ≤ 5) ∧
      (1 ≤ c.srcSleep.toNat ∧ c.srcSleep.toNat ≤ 5) ∧ (1 ≤ c.srcCard.toNat ∧ c.srcCard.toNat ≤ 5) ∧
      c.volAdjBase.toNat ≤ 224 := by
  simp only [Config.wellFormed, configInRange, Bool.and_eq_true, decide_eq_true_eq, sourceInRange_iff, and_assoc]

/-! ### Refusal under an ill-formed configuration

Each meaning is one of three operations (a catalog evaluation, a message, an initialization step), and each of the
three is guarded as a whole. -/

section
variable {s : State} (h : s.cfg.wellFormed = false)
include h

theorem showCatalog_of_illFormed (r : CatResult) : showCatalog r s = .refused .illFormedConfig :=
  guarded_of_illFormed h _

theorem whenRunIdle_of_illFormed (r : Result) : whenRunIdle s r = .refused .illFormedConfig :=
  guarded_of_illFormed h _

theorem whenInitIdle_of_illFormed (k : BitVec 2) (r : Result) :
    whenInitIdle k s r = .refused .illFormedConfig :=
  guarded_of_illFormed h _

theorem exec_of_illFormed (i : Instr) : exec i s = .refused .illFormedConfig := by
  cases i with
  | msgTrack | msgPause | msgResume | msgStop | msgVolup | msgVoldown => exact whenRunIdle_of_illFormed h _
  | init0 | init1 | init2 => exact whenInitIdle_of_illFormed h _ _
  | _ => exact showCatalog_of_illFormed h _

theorem step_of_illFormed : step s = .refused .illFormedConfig :=
  guarded_of_illFormed h _

end

/-- Settles O25: the bounds of R6 read off the check, and the guard that the step and every meaning stand behind. -/
theorem illFormedConfigurationIsRefused : Obligations.IllFormedConfigurationIsRefused :=
  fun s => ⟨config_wellFormed_iff s.cfg, fun h => ⟨step_of_illFormed h, exec_of_illFormed h⟩⟩

end Sys2Proof.Proofs.Scope
end

section
/-! PROOFS, 10_state.md. The step run forward: what it answers where the state says which agent moves
and what is enabled. -/

namespace Sys2Proof.Proofs.StepRules

open Sys2Proof.Machine Sys2Proof.Safety

/-- R59 in numbers. -/
theorem msgValid_iff (c : Config) (w : MsgWord) :
    msgValid c w = true ↔
      1 ≤ (msgTag w).toNat ∧ (msgTag w).toNat ≤ 5 ∨
      (msgTag w).toNat = 0 ∧ 1 ≤ (msgId w).toNat ∧ (msgId w).toNat ≤ c.nTracks := by
  have htag : msgTag w = 0 ↔ (msgTag w).toNat = 0 := BitVec.toNat_eq
  simp only [msgValid, trackInRange, Bool.or_eq_true, Bool.and_eq_true, decide_eq_true_eq, htag]

/-! ### The guards -/

section
variable {s : State} (hw : s.cfg.wellFormed = true)
include hw

theorem showCatalog_of_wellFormed (r : CatResult) : showCatalog r s = .next (observe (.catalog r) s) :=
  guarded_of_wellFormed hw _

theorem whenRunIdle_of_enabled (hp : s.phase = .run) (hs : s.st = .idle) (r : Result) : whenRunIdle s r = r := by
  simp [whenRunIdle, guarded_of_wellFormed hw, hp, hs]

theorem whenInitIdle_of_enabled (hp : s.phase = .init) (hs : s.st = .idle) (r : Result) :
    whenInitIdle s.initIdx s r = r := by
  simp [whenInitIdle, guarded_of_wellFormed hw, hp, hs]

/-! ### The agents outside the block, the clock and reset -/

theorem step_of_sink {c : SinkCall} {a : Answer} (ha : nextAction s = .sink c a) :
    step s = .next (sinkAnswer c a (beginStep s)) :=
  step_of_done hw (by simp only [turn, ha])

theorem step_of_tick (ha : nextAction s = .tick) : step s = .next (tickClock (beginStep s)) :=
  step_of_done hw (by simp only [turn, ha])

theorem step_of_offer {p : Nat} {w : MsgWord} (ha : nextAction s = .offer p w) :
    step s = .next (offerWord w (beginStep s)) :=
  step_of_done hw (by simp only [turn, ha])

theorem step_of_reset (ha : nextAction s = .reset) : step s = .next (resetStep (beginStep s)) :=
  step_of_done hw (by simp only [turn, ha])

/-- A catalog operation of a well-formed configuration shows a result. -/
theorem exec_catalog_completes {i : Instr} {sel : BitVec 5} {a b : Word} (hd : decode (.request sel a b) = .instr i) :
    ∃ r, exec i s = .next (observe (.catalog r) s) := by
  simp only [decode, decodeRequest] at hd
  split at hd
  case h_30 => cases hd
  all_goals
    cases hd
    exact ⟨_, showCatalog_of_wellFormed hw _⟩

theorem step_of_catalog {sel : BitVec 5} {a b : Word} (ha : nextAction s = .catalog sel a b) :
    ∃ r, step s = .next (observe (.catalog r) (beginStep s)) := by
  have hturn : turn s = catalogTurn sel a b (beginStep s) := by simp only [turn, ha]
  cases hd : decode (.request sel a b) with
  | instr i =>
    obtain ⟨r, hr⟩ := exec_catalog_completes (s := beginStep s) hw hd
    refine ⟨r, (step_of_run hw ?_).trans hr⟩
    simp only [hturn, catalogTurn, hd]
  | _ =>
    refine ⟨.reject .badOp, (step_of_done hw ?_).trans (showCatalog_of_wellFormed (s := beginStep s) hw _)⟩
    simp only [hturn, catalogTurn, hd]

end

/-! ### The meanings of the Dispatcher, where they are enabled -/

/-- Every tag up to 5 is a message's. -/
theorem decode_message_of_tag {w : MsgWord} (htag : (msgTag w).toNat ≤ 5) : ∃ i, decode (.message w) = .instr i := by
  interval_cases hk : (msgTag w).toNat <;> simp [decode, decodeMessage, hk]

section
variable {s : State} (hw : s.cfg.wellFormed = true)
include hw

/-- The configured source passes the check of SELECT_SOURCE (R6, R85). -/
theorem catSelectSource_initSource :
    catSelectSource s.cfg.initSource = .ok (encodeFrame 0x09 true (paramB8 s.cfg.initSource)) := by
  obtain ⟨-, -, hsrc, -⟩ := (Scope.config_wellFormed_iff s.cfg).1 hw
  exact if_pos ((Scope.sourceInRange_iff _).2 hsrc)

theorem exec_init0 (hp : s.phase = .init) (hs : s.st = .idle) (hk : s.initIdx = 0) :
    exec .init0 s = .next (startSend (encodeFrame 0x09 true (paramB8 s.cfg.initSource)) s) := by
  have hx : exec .init0 s = whenInitIdle 0 s (sendCatalog (catSelectSource s.cfg.initSource) s) := rfl
  rw [hx, ← hk, whenInitIdle_of_enabled hw hp hs, catSelectSource_initSource hw]
  rfl

theorem exec_init1 (hp : s.phase = .init) (hs : s.st = .idle) (hk : s.initIdx = 1) :
    exec .init1 s = .next (startSend (encodeFrame 0x06 true (paramB8 s.vol)) s) := by
  have hx : exec .init1 s = whenInitIdle 1 s (sendCatalog (catSetVolume s.vol) s) := rfl
  rw [hx, ← hk, whenInitIdle_of_enabled hw hp hs]
  rfl

theorem exec_init2 (hp : s.phase = .init) (hs : s.st = .idle) (hk : s.initIdx = 2) :
    exec .init2 s = .next (startSend (encodeFrame 0x03 true (paramP16 s.cfg.welcomeTrack)) s) := by
  have hx : exec .init2 s = whenInitIdle 2 s (sendCatalog (catPlayTrack s.cfg.welcomeTrack) s) := rfl
  rw [hx, ← hk, whenInitIdle_of_enabled hw hp hs]
  rfl

/-- A message run where the Dispatcher is ready completes, none of its catalog calls being rejected, with that
message's frame sent. -/
theorem exec_message_of_enabled {w : MsgWord} {i : Instr} (hd : decode (.message w) = .instr i)
    (hp : s.phase = .run) (hs : s.st = .idle) :
    exec i s = .next (startSend (messageFrame s.vol w) { s with vol := volAfter s.vol w }) := by
  have completes : ∃ t, exec i s = .next t := by
    simp only [decode, decodeMessage] at hd
    split at hd
    case h_7 => cases hd
    all_goals
      cases hd
      exact ⟨_, whenRunIdle_of_enabled hw hp hs _⟩
  obtain ⟨t, ht⟩ := completes
  obtain ⟨-, rfl⟩ := exec_message hd hp hs ht
  exact ht

end

/-! ### The Dispatcher's steps -/

section
variable {s : State} (hw : s.cfg.wellFormed = true) (ha : nextAction s = .dispatcher)
include hw ha

theorem step_of_dispatcher_done {r : Result} (h : dispatcherTurn (beginStep s) = .done r) : step s = r :=
  step_of_done hw (by simp only [turn, ha, h])

theorem step_of_dispatcher_run {i : Instr} {t : State} (h : dispatcherTurn (beginStep s) = .run i t) :
    step s = exec i t :=
  step_of_run hw (by simp only [turn, ha, h])

end

/-- The Dispatcher's turn on a queue with a decodable head (R133). -/
theorem dispatcherTurn_message {s : State} {w : MsgWord} {ws : List MsgWord} {i : Instr} (hp : s.phase = .run)
    (hs : s.st = .idle) (hq : s.q = w :: ws) (hd : decode (.message w) = .instr i) :
    dispatcherTurn s = .run i (observe (.dequeued w) { s with q := ws }) := by
  simp [dispatcherTurn, messageTurn, qDeq, hp, hs, hq, hd]

/-- The whole step of R133: the head word leaves the queue and its frame is sent. -/
theorem step_of_message {s : State} {w : MsgWord} {ws : List MsgWord} (hw : s.cfg.wellFormed = true)
    (ha : nextAction s = .dispatcher) (hp : s.phase = .run) (hs : s.st = .idle) (hq : s.q = w :: ws)
    (htag : (msgTag w).toNat ≤ 5) :
    step s = .next (startSend (messageFrame s.vol w)
      { beginStep s with q := ws, obs := [.dequeued w], vol := volAfter s.vol w }) := by
  obtain ⟨i, hd⟩ := decode_message_of_tag htag
  have hturn := dispatcherTurn_message (s := beginStep s) hp hs hq hd
  exact (step_of_dispatcher_run hw ha hturn).trans
    (exec_message_of_enabled (s := observe (.dequeued w) { beginStep s with q := ws }) hw hd hp hs)

/-- The end of the pacing delay in phase RUN (R132). -/
theorem endPace_run {s : State} (hp : s.phase = .run) : endPace s = .next (observe .endPace { s with st := .idle }) := by
  simp [endPace, hp]

/-- The end of the pacing delay in phase INIT, before the last step (R132). -/
theorem endPace_init {s : State} (hp : s.phase = .init) (hk : s.initIdx.toNat < 2) :
    endPace s = .next (observe .endPace { s with st := .idle, initIdx := s.initIdx + 1 }) := by
  have hcases : s.initIdx = 0 ∨ s.initIdx = 1 := by bv_omega
  rcases hcases with h | h <;> simp [endPace, hp, h]

/-- The end of the third pacing delay of phase INIT (R132). -/
theorem endPace_lastInit {s : State} (hp : s.phase = .init) (hk : s.initIdx = 2) :
    endPace s = .next (observe .endPace { s with st := .idle, phase := .run }) := by
  simp [endPace, hp, hk]

/-- The Dispatcher's step while a call has ended and its pacing delay runs or is over (R120). -/
theorem step_of_pace {s : State} (hw : s.cfg.wellFormed = true) (ha : nextAction s = .dispatcher)
    (hp : s.phase ≠ .halt) (hs : s.st = .pace) :
    step s = if s.paceCnt = 0 then endPace (beginStep s) else .next (noStep (beginStep s)) := by
  refine step_of_dispatcher_done hw ha ?_
  cases hph : s.phase with
  | halt => exact absurd hph hp
  | init | run => simp only [dispatcherTurn, beginStep_phase, beginStep_st, hph, hs]; rfl

end Sys2Proof.Proofs.StepRules
end

section
/-! PROOFS, 10_state.md. The invariant of R21: what each operation on the state asks to keep it, and that every step of
a state that meets it is answered. -/

namespace Sys2Proof.Proofs.Invariant

open Sys2Proof.Machine Sys2Proof.Safety Sys2Proof.Proofs.StepRules

/-! ### The frames the block builds are well-formed (R57) -/

theorem frameWellFormed_encodeFrame (op : Byte) (fb : Bool) (p : Param) :
    frameWellFormed (encodeFrame op fb p) = true := by
  cases fb <;> simp [frameWellFormed, frameConstants, frameCksum, encodeFrame, fbByte, joinBytes_split]

theorem frameWellFormed_messageFrame (vol : Byte) (w : MsgWord) : frameWellFormed (messageFrame vol w) = true := by
  unfold messageFrame
  split_ifs <;> exact frameWellFormed_encodeFrame _ _ _

/-! ### What keeps the invariant -/

/-- The reset values of R27 meet the invariant. -/
theorem inv_resetFor {c : Config} (hw : c.wellFormed = true) : Inv (State.resetFor c) where
  configOk := hw
  queueBounded := Nat.zero_le _
  queueValid := fun _ h => nomatch h
  initIdxLegal := Nat.zero_le _
  haltIdle := fun _ => rfl
  pacingOnly := fun h => absurd rfl h
  paceBounded := Nat.zero_le _
  frameInFlight := fun h => nomatch h

section
variable {s : State} (hi : Inv s)
include hi

theorem paceCnt_of_notPacing (hs : s.st ≠ .pace) : s.paceCnt = 0 :=
  Decidable.byContradiction fun h => hs (hi.pacingOnly h)

theorem inv_observe (e : Event) : Inv (observe e s) := { hi with }

theorem inv_beginStep : Inv (beginStep s) := { hi with }

theorem inv_resetStep : Inv (resetStep s) := { inv_resetFor hi.configOk with frameInFlight := fun h => nomatch h }

theorem inv_qEnq {w : MsgWord} (hv : msgValid s.cfg w = true) (hl : s.q.length < s.cfg.qCap) : Inv (qEnq w s) :=
  { hi with
    queueBounded := by simpa using hl
    queueValid := by
      intro v hmem
      rcases List.mem_append.1 hmem with hold | hnew
      · exact hi.queueValid v hold
      · exact List.mem_singleton.1 hnew ▸ hv }

theorem inv_dequeue {w : MsgWord} {ws : List MsgWord} (hq : s.q = w :: ws) (vol : Byte) (es : List Event) :
    Inv { s with q := ws, obs := es, vol := vol } :=
  { hi with
    queueBounded := by
      have hlen := hi.queueBounded
      rw [hq, List.length_cons] at hlen
      exact Nat.le_of_succ_le hlen
    queueValid := fun v hmem => hi.queueValid v (hq ▸ List.mem_cons_of_mem w hmem) }

theorem inv_startSend {f : Frame} (hp : s.phase ≠ .halt) (hs : s.st ≠ .pace) (hf : frameWellFormed f = true) :
    Inv (startSend f s) :=
  { hi with
    haltIdle := fun h => absurd h hp
    pacingOnly := fun h => absurd (paceCnt_of_notPacing hi hs) h
    frameInFlight := fun _ => hf }

theorem inv_callFlush (hp : s.phase ≠ .halt) (hs : s.st ≠ .pace) : Inv { s with st := .flush } :=
  { hi with
    haltIdle := fun h => absurd h hp
    pacingOnly := fun h => absurd (paceCnt_of_notPacing hi hs) h
    frameInFlight := fun h => nomatch h }

theorem inv_enterPace (hp : s.phase ≠ .halt) : Inv (enterPace s) :=
  { hi with
    haltIdle := fun h => absurd h hp
    pacingOnly := fun _ => rfl
    paceBounded := Nat.le_refl _
    frameInFlight := fun h => nomatch h }

theorem inv_countDown (hs : s.st = .pace) : Inv { s with paceCnt := s.paceCnt - 1 } :=
  { hi with
    pacingOnly := fun _ => hs
    paceBounded := Nat.le_trans (Nat.sub_le _ _) hi.paceBounded }

/-- ST goes to IDLE with no pacing delay left, at the end of a delay and on the error that halts. -/
theorem inv_toIdle (hn : s.paceCnt = 0) (p : Phase) {k : BitVec 2} (hk : k.toNat ≤ 2) :
    Inv { s with st := .idle, phase := p, initIdx := k } :=
  { hi with
    initIdxLegal := hk
    haltIdle := fun _ => rfl
    pacingOnly := fun h => absurd hn h
    frameInFlight := fun h => nomatch h }

theorem inv_sinkOk {c : SinkCall} (hc : pendingCall s = some c) : Inv (sinkOk c s) := by
  obtain ⟨hp, hcall⟩ := pendingCall_some hc
  rcases hcall with ⟨rfl, hs⟩ | ⟨rfl, -⟩
  · exact inv_observe (inv_callFlush hi hp (by simp [hs])) _
  · exact inv_enterPace hi hp

theorem inv_takeTransportError {c : SinkCall} (hc : pendingCall s = some c) : Inv (takeTransportError c s) := by
  obtain ⟨hp, hcall⟩ := pendingCall_some hc
  cases hphase : s.phase with
  | init =>
    have hs : s.st ≠ .pace := by rcases hcall with ⟨-, hs⟩ | ⟨-, hs⟩ <;> simp [hs]
    rw [takeTransportError_init c hphase]
    have ho := inv_observe hi (.txError c)
    exact inv_toIdle ho (paceCnt_of_notPacing ho hs) .halt hi.initIdxLegal
  | run =>
    rw [takeTransportError_run c hphase]
    exact inv_enterPace (inv_observe hi _) hp
  | halt => exact absurd hphase hp

end

/-- Settles O41: each of the things a step can do keeps R21. -/
theorem everyStepKeepsTheInvariant : Obligations.EveryStepKeepsTheInvariant := by
  intro s t hi hstep
  obtain ⟨-, hdid⟩ := step_next hstep
  have hb : Inv (beginStep s) := inv_beginStep hi
  cases hdid with
  | nothing h | ticked _ h | dropped _ _ _ _ h | suspended _ _ _ _ _ h | catalog _ _ _ _ _ h =>
    exact h ▸ inv_observe hb _
  | initSend f hp hs hf h =>
    have hwf : frameWellFormed f = true := by
      rcases hf with ⟨-, rfl⟩ | ⟨-, rfl⟩ | ⟨-, rfl⟩ <;> exact frameWellFormed_encodeFrame _ _ _
    exact h ▸ inv_startSend hb (by simp [hp]) (by simp [hs]) hwf
  | message w ws hp hs hq _ h =>
    exact h ▸ inv_startSend (inv_dequeue hb hq _ _) (by simp [hp]) (by simp [hs]) (frameWellFormed_messageFrame _ _)
  | sinkOk c _ hc h => exact h ▸ inv_sinkOk (inv_observe hb _) hc
  | sinkErr c _ hc h => exact h ▸ inv_takeTransportError (inv_observe hb _) hc
  | counted _ _ hs _ h => exact h ▸ inv_observe (inv_countDown hb hs) _
  | initPaced k _ _ hn hk h =>
    have hle : k.toNat ≤ 2 := by rcases hk with ⟨-, rfl⟩ | ⟨-, rfl⟩ <;> decide
    exact h ▸ inv_observe (inv_toIdle hb hn _ hle) _
  | lastInitPaced _ _ hn _ h => exact h ▸ inv_observe (inv_toIdle hb hn .run hi.initIdxLegal) _
  | runPaced _ _ hn h => exact h ▸ inv_observe (inv_toIdle hb hn _ hi.initIdxLegal) _
  | enqueued _ _ _ hv hl h => exact h ▸ inv_observe (inv_qEnq hb hv hl) _
  | reset _ h => exact h ▸ inv_resetStep hb

/-! ### Every step is answered -/

section
variable {s : State} (hi : Inv s)
include hi

/-- INIT_IDX is never 3, so the end of pacing has a meaning (R132). -/
theorem endPace_completes : ∃ t, endPace s = .next t := by
  cases hp : s.phase with
  | halt => exact ⟨noStep s, by simp only [endPace, hp]⟩
  | run => exact ⟨_, endPace_run hp⟩
  | init =>
    rcases Nat.lt_or_eq_of_le hi.initIdxLegal with hlt | htwo
    · exact ⟨_, endPace_init hp hlt⟩
    · exact ⟨_, endPace_lastInit hp (BitVec.eq_of_toNat_eq htwo)⟩

/-- The word at the head of the queue is valid, so its tag is a message's (R133). -/
theorem headTag_le {w : MsgWord} {ws : List MsgWord} (hq : s.q = w :: ws) : (msgTag w).toNat ≤ 5 := by
  have hv : msgValid s.cfg w = true := hi.queueValid w (hq ▸ List.mem_cons_self)
  rcases (msgValid_iff s.cfg w).1 hv with ⟨-, hle⟩ | ⟨hzero, -⟩ <;> omega

theorem dispatcherStep_completes (ha : nextAction s = .dispatcher) : ∃ t, step s = .next t := by
  have hw := hi.configOk
  rcases dispatcherTurn_cases (beginStep s) with
    ⟨-, hd⟩ | ⟨hp, hs, hd⟩ | ⟨hp, hs, hd⟩ | ⟨hp, hs, -⟩ | ⟨-, -, hd⟩
  · exact ⟨_, step_of_dispatcher_done hw ha hd⟩
  · rcases initTurn_cases (beginStep s) with ⟨hk, hx⟩ | ⟨hk, hx⟩ | ⟨hk, hx⟩ | ⟨hk, -⟩
    · exact ⟨_, (step_of_dispatcher_run hw ha (hd.trans hx)).trans (exec_init0 (s := beginStep s) hw hp hs hk)⟩
    · exact ⟨_, (step_of_dispatcher_run hw ha (hd.trans hx)).trans (exec_init1 (s := beginStep s) hw hp hs hk)⟩
    · exact ⟨_, (step_of_dispatcher_run hw ha (hd.trans hx)).trans (exec_init2 (s := beginStep s) hw hp hs hk)⟩
    · have hle := (inv_beginStep hi).initIdxLegal
      rw [hk] at hle
      exact absurd hle (by decide)
  · cases hq : s.q with
    | nil =>
      have hempty : messageTurn (beginStep s) = .done (.next (noStep (beginStep s))) := by
        simp [messageTurn, qDeq, hq]
      exact ⟨_, step_of_dispatcher_done hw ha (hd.trans hempty)⟩
    | cons w ws => exact ⟨_, step_of_message hw ha hp hs hq (headTag_le hi hq)⟩
  · rw [step_of_pace hw ha hp hs]
    split
    · exact endPace_completes (inv_beginStep hi)
    · exact ⟨_, rfl⟩
  · exact ⟨_, step_of_dispatcher_done hw ha hd⟩

end

/-- Settles O42: only the Dispatcher's step can stop, and there R21 rules out the words and INIT_IDX it stops for. -/
theorem invariantStatesAlwaysStep : Obligations.InvariantStatesAlwaysStep := by
  intro s hi
  have hw := hi.configOk
  cases ha : nextAction s with
  | dispatcher => exact dispatcherStep_completes hi ha
  | sink c a => exact ⟨_, step_of_sink hw ha⟩
  | tick => exact ⟨_, step_of_tick hw ha⟩
  | offer p w => exact ⟨_, step_of_offer hw ha⟩
  | catalog sel a b =>
    obtain ⟨r, hr⟩ := step_of_catalog hw ha
    exact ⟨_, hr⟩
  | reset => exact ⟨_, step_of_reset hw ha⟩

/-- Settles O40, the bounds of `CFG_EX` (R7) being met. -/
theorem invariantHoldsAtReset : Obligations.InvariantHoldsAtReset :=
  ⟨fun _ => inv_resetFor, inv_resetFor (by decide)⟩

end Sys2Proof.Proofs.Invariant
end

section
/-! PROOFS, 10_state.md, R17. Two runs of one step side by side, on states that agree on all but a stale FRAME_REG: each
operation and each meaning keeps the agreement, and so does the step. -/

namespace Sys2Proof.Proofs.StaleFrame

open Sys2Proof.Machine Sys2Proof.Safety

/-! ### Agreement of states, results and turns -/

/-- The states agree on everything but the counter of free values and, where ST is not SEND, FRAME_REG. -/
structure Agree (s s' : State) : Prop where
  vol      : s.vol = s'.vol
  phase    : s.phase = s'.phase
  initIdx  : s.initIdx = s'.initIdx
  st       : s.st = s'.st
  paceCnt  : s.paceCnt = s'.paceCnt
  q        : s.q = s'.q
  cfg      : s.cfg = s'.cfg
  frameReg : s.st = .send → s.frameReg = s'.frameReg
  sched    : s.sched = s'.sched
  obs      : s.obs = s'.obs

theorem agree_iff (s s' : State) : Agree s s' ↔ SameBlock s s' ∧ s.sched = s'.sched ∧ s.obs = s'.obs := by
  constructor
  · intro ⟨hvol, hphase, hidx, hst, hpace, hq, hcfg, hframe, hsched, hobs⟩
    exact ⟨⟨hvol, hphase, hidx, hst, hpace, hq, hcfg, hframe⟩, hsched, hobs⟩
  · intro ⟨⟨hvol, hphase, hidx, hst, hpace, hq, hcfg, hframe⟩, hsched, hobs⟩
    exact ⟨hvol, hphase, hidx, hst, hpace, hq, hcfg, hframe, hsched, hobs⟩

/-- The same outcome, with next states that agree. -/
inductive ResultsAgree : Result → Result → Prop where
  | next {t t' : State} (h : Agree t t') : ResultsAgree (.next t) (.next t')
  | fault (r : Fault) : ResultsAgree (.fault r) (.fault r)
  | refused (r : Refusal) : ResultsAgree (.refused r) (.refused r)

/-- The same instruction on states that agree, or results that agree. -/
inductive TurnsAgree : Turn → Turn → Prop where
  | run (i : Instr) {t t' : State} (h : Agree t t') : TurnsAgree (.run i t) (.run i t')
  | done {r r' : Result} (h : ResultsAgree r r') : TurnsAgree (.done r) (.done r')

theorem ResultsAgree.next_left {t : State} {r' : Result} (h : ResultsAgree (.next t) r') :
    ∃ t', r' = .next t' ∧ Agree t t' := by
  cases h with
  | next ht => exact ⟨_, rfl, ht⟩

theorem ResultsAgree.fault_left {r : Fault} {r' : Result} (h : ResultsAgree (.fault r) r') : r' = .fault r := by
  cases h
  rfl

theorem ResultsAgree.refused_left {r : Refusal} {r' : Result} (h : ResultsAgree (.refused r) r') :
    r' = .refused r := by
  cases h
  rfl

/-! ### The operations -/

section
variable {s s' : State} (h : Agree s s')
include h

theorem observe_agree (e : Event) : Agree (observe e s) (observe e s') := { h with obs := congrArg (· ++ [e]) h.obs }

theorem noStep_agree : Agree (noStep s) (noStep s') := observe_agree h .noStep

theorem setVol_agree {v v' : Byte} (hv : v = v') : Agree { s with vol := v } { s' with vol := v' } :=
  { h with vol := hv }

theorem setQ_agree (ws : List MsgWord) : Agree { s with q := ws } { s' with q := ws } := { h with q := rfl }

theorem setPaceCnt_agree {n n' : Nat} (hn : n = n') : Agree { s with paceCnt := n } { s' with paceCnt := n' } :=
  { h with paceCnt := hn }

/-- ST set to anything but SEND: FRAME_REG no longer means anything. -/
theorem setSt_agree {st : St} (hst : st ≠ .send) : Agree { s with st := st } { s' with st := st } :=
  { h with st := rfl, frameReg := fun hs => absurd hs hst }

theorem toIdle_agree (p : Phase) (k : BitVec 2) :
    Agree { s with st := .idle, phase := p, initIdx := k } { s' with st := .idle, phase := p, initIdx := k } :=
  { h with st := rfl, phase := rfl, initIdx := rfl, frameReg := fun hs => nomatch hs }

theorem startSend_agree (f : Frame) : Agree (startSend f s) (startSend f s') :=
  { h with st := rfl, frameReg := fun _ => rfl, obs := congrArg (· ++ [Event.send f]) h.obs }

theorem enterPace_agree : Agree (enterPace s) (enterPace s') :=
  { h with st := rfl, paceCnt := congrArg Config.paceTicks h.cfg, frameReg := fun hs => nomatch hs }

theorem qEnq_agree (w : MsgWord) : Agree (qEnq w s) (qEnq w s') := { h with q := congrArg (· ++ [w]) h.q }

theorem offerWord_agree (w : MsgWord) : Agree (offerWord w s) (offerWord w s') := by
  simp only [offerWord, h.cfg, h.q]
  split_ifs
  · exact observe_agree h _
  · exact observe_agree (qEnq_agree h w) _
  · exact observe_agree h _

theorem sinkOk_agree (c : SinkCall) : Agree (sinkOk c s) (sinkOk c s') := by
  cases c with
  | send => exact observe_agree (setSt_agree h (by decide)) .flush
  | flush => exact enterPace_agree h

theorem afterError_agree : Agree (afterError s) (afterError s') := by
  simp only [afterError, h.phase, h.initIdx]
  split
  · exact toIdle_agree h _ _
  · exact enterPace_agree h
  · exact h

theorem sinkAnswer_agree (c : SinkCall) (a : Answer) : Agree (sinkAnswer c a s) (sinkAnswer c a s') := by
  have hpending : pendingCall s = pendingCall s' := by simp only [pendingCall, h.phase, h.st]
  simp only [sinkAnswer, hpending]
  split_ifs
  · cases a with
    | ok => exact sinkOk_agree (observe_agree h _) c
    | err => exact afterError_agree (observe_agree (observe_agree h _) _)
  · exact noStep_agree h

theorem tickClock_agree : Agree (tickClock s) (tickClock s') := by
  have hcond : (s.phase ≠ .halt ∧ s.st = .pace ∧ 0 < s.paceCnt) ↔
      (s'.phase ≠ .halt ∧ s'.st = .pace ∧ 0 < s'.paceCnt) := by
    rw [h.phase, h.st, h.paceCnt]
  by_cases hc : s.phase ≠ .halt ∧ s.st = .pace ∧ 0 < s.paceCnt
  · rw [tickClock, if_pos hc, tickClock, if_pos (hcond.1 hc)]
    exact observe_agree (setPaceCnt_agree h (congrArg (· - 1) h.paceCnt)) .tick
  · rw [tickClock, if_neg hc, tickClock, if_neg (hcond.not.1 hc)]
    exact observe_agree h .tick

theorem resetStep_agree : Agree (resetStep s) (resetStep s') where
  vol := congrArg Config.volDefault h.cfg
  phase := rfl
  initIdx := rfl
  st := rfl
  paceCnt := rfl
  q := rfl
  cfg := h.cfg
  frameReg := fun hs => nomatch hs
  sched := h.sched
  obs := congrArg (· ++ [Event.reset]) h.obs

theorem endPace_agree : ResultsAgree (endPace s) (endPace s') := by
  simp only [endPace, h.phase, h.initIdx]
  split
  · split
    · exact .next (observe_agree (toIdle_agree h _ _) _)
    · exact .next (observe_agree (toIdle_agree h _ _) _)
    · exact .next (observe_agree (toIdle_agree h _ _) _)
    · exact .fault _
  · exact .next (observe_agree (toIdle_agree h _ _) _)
  · exact .next (noStep_agree h)

/-! ### The guards and the meanings -/

theorem guarded_agree {r r' : Result} (hr : ResultsAgree r r') : ResultsAgree (guarded s r) (guarded s' r') := by
  simp only [guarded, h.cfg]
  split_ifs
  · exact hr
  · exact .refused _

theorem showCatalog_agree {r r' : CatResult} (hr : r = r') : ResultsAgree (showCatalog r s) (showCatalog r' s') :=
  guarded_agree h (.next (hr ▸ observe_agree h _))

theorem sendCatalog_agree {r r' : CatResult} (hr : r = r') : ResultsAgree (sendCatalog r s) (sendCatalog r' s') := by
  subst hr
  cases r with
  | ok f => exact .next (startSend_agree h f)
  | reject c => exact .refused _

theorem whenRunIdle_agree {r r' : Result} (hr : ResultsAgree r r') :
    ResultsAgree (whenRunIdle s r) (whenRunIdle s' r') := by
  refine guarded_agree h ?_
  simp only [h.phase, h.st]
  split_ifs
  · exact hr
  · exact .next (noStep_agree h)

theorem whenInitIdle_agree (k : BitVec 2) {r r' : Result} (hr : ResultsAgree r r') :
    ResultsAgree (whenInitIdle k s r) (whenInitIdle k s' r') := by
  refine guarded_agree h ?_
  simp only [h.phase, h.st, h.initIdx]
  split_ifs
  · exact hr
  · exact .next (noStep_agree h)

/-- No meaning reads FRAME_REG: it shows a result or sends a frame made of operands, VOL and the configuration. -/
theorem exec_agree (i : Instr) : ResultsAgree (exec i s) (exec i s') := by
  cases i with
  | msgTrack | msgPause | msgResume | msgStop => exact whenRunIdle_agree h (sendCatalog_agree h rfl)
  | msgVolup =>
    have hv : s.vol + 1 = s'.vol + 1 := congrArg (· + 1) h.vol
    exact whenRunIdle_agree h (sendCatalog_agree (setVol_agree h hv) (congrArg catSetVolume hv))
  | msgVoldown =>
    have hv : s.vol - 1 = s'.vol - 1 := congrArg (· - 1) h.vol
    exact whenRunIdle_agree h (sendCatalog_agree (setVol_agree h hv) (congrArg catSetVolume hv))
  | init0 => exact whenInitIdle_agree h 0 (sendCatalog_agree h (congrArg (catSelectSource <| Config.initSource ·) h.cfg))
  | init1 => exact whenInitIdle_agree h 1 (sendCatalog_agree h (congrArg catSetVolume h.vol))
  | init2 => exact whenInitIdle_agree h 2 (sendCatalog_agree h (congrArg (catPlayTrack <| Config.welcomeTrack ·) h.cfg))
  | volumeAdjust g => exact showCatalog_agree h (congrArg (catVolumeAdjust · g) h.cfg)
  | sleep => exact showCatalog_agree h (congrArg catSleep h.cfg)
  | wake => exact showCatalog_agree h (congrArg catWake h.cfg)
  | _ => exact showCatalog_agree h rfl

/-! ### The turn -/

theorem initTurn_agree : TurnsAgree (initTurn s) (initTurn s') := by
  simp only [initTurn, h.initIdx]
  split
  · exact .run _ h
  · exact .done (.fault _)

theorem messageTurn_agree : TurnsAgree (messageTurn s) (messageTurn s') := by
  cases hq : s'.q with
  | nil =>
    simp only [messageTurn, qDeq, h.q, hq]
    exact .done (.next (noStep_agree h))
  | cons w ws =>
    simp only [messageTurn, qDeq, h.q, hq]
    split
    · exact .run _ (observe_agree (setQ_agree h _) _)
    · exact .done (.fault _)

theorem dispatcherTurn_agree : TurnsAgree (dispatcherTurn s) (dispatcherTurn s') := by
  have hwait : TurnsAgree (.done (.next (noStep s))) (.done (.next (noStep s'))) := .done (.next (noStep_agree h))
  simp only [dispatcherTurn, h.phase, h.st, h.paceCnt]
  split
  · exact hwait
  · exact initTurn_agree h
  · exact messageTurn_agree h
  · split_ifs
    · exact .done (endPace_agree h)
    · exact hwait
  · exact hwait
  · exact hwait

theorem catalogTurn_agree (sel : BitVec 5) (a b : Word) :
    TurnsAgree (catalogTurn sel a b s) (catalogTurn sel a b s') := by
  unfold catalogTurn
  split
  · exact .run _ h
  · exact .done (showCatalog_agree h rfl)

end

section
variable {s s' : State} (h : SameBlock s s') (hsched : s.sched = s'.sched)
include h hsched

/-- At the start of a step nothing is observed yet, so the past events need not agree. -/
theorem beginStep_agree : Agree (beginStep s) (beginStep s') :=
  (agree_iff _ _).2 ⟨h, congrArg List.tail hsched, rfl⟩

theorem nextAction_agree : nextAction s = nextAction s' := by
  obtain ⟨-, -, -, hst, hpace, -⟩ := h
  simp only [nextAction, hsched, hst, hpace]

theorem turn_agree : TurnsAgree (turn s) (turn s') := by
  have hb := beginStep_agree h hsched
  simp only [turn, nextAction_agree h hsched]
  split
  · exact dispatcherTurn_agree hb
  · exact .done (.next (sinkAnswer_agree hb _ _))
  · exact .done (.next (tickClock_agree hb))
  · exact .done (.next (offerWord_agree hb _))
  · exact catalogTurn_agree hb _ _ _
  · exact .done (.next (resetStep_agree hb))

theorem step_agree : ResultsAgree (step s) (step s') := by
  refine guarded_agree (s := beginStep s) (s' := beginStep s') (beginStep_agree h hsched) ?_
  have hturn := turn_agree h hsched
  generalize turn s = x, turn s' = y at hturn ⊢
  cases hturn with
  | run i hi => exact exec_agree hi i
  | done hr => exact hr

end

/-- Settles O47: the two steps have results that agree. -/
theorem staleFrameIsNeverRead : Obligations.StaleFrameIsNeverRead := by
  intro s s' h hsched
  have hagree := step_agree h hsched
  refine ⟨fun r hr => (hr ▸ hagree).refused_left, fun r hr => (hr ▸ hagree).fault_left, fun t ht => ?_⟩
  obtain ⟨t', ht', htt'⟩ := (ht ▸ hagree).next_left
  exact ⟨t', ht', (agree_iff t t').1 htt'⟩

end Sys2Proof.Proofs.StaleFrame
end

section
/-! PROOFS, 10_state.md. Who writes VOL and PHASE, when a transport error is shown, the single steps of the Sink, the
producer port and the end of pacing, and the flags and ports as functions of the state. -/

namespace Sys2Proof.Proofs.Registers

open Sys2Proof.Machine Sys2Proof.Safety Sys2Proof.Proofs.StepRules

/-! ### What the Sink's answers leave unchanged -/

@[simp] theorem sinkOk_vol (c : SinkCall) (s : State) : (sinkOk c s).vol = s.vol := by
  cases c <;> rfl

@[simp] theorem sinkOk_phase (c : SinkCall) (s : State) : (sinkOk c s).phase = s.phase := by
  cases c <;> rfl

@[simp] theorem takeTransportError_vol (c : SinkCall) (s : State) : (takeTransportError c s).vol = s.vol := by
  unfold takeTransportError afterError
  split <;> rfl

@[simp] theorem takeTransportError_obs (c : SinkCall) (s : State) :
    (takeTransportError c s).obs = s.obs ++ [.txError c] := by
  unfold takeTransportError afterError
  split <;> rfl

theorem takeTransportError_phase (c : SinkCall) (s : State) :
    (takeTransportError c s).phase = if s.phase = .init then .halt else s.phase := by
  unfold takeTransportError afterError
  cases hp : s.phase <;> simp [hp]

theorem txErrorOf_sinkOk (c : SinkCall) (s : State) :
    txErrorOf (sinkOk c (observe (.answered c .ok) (beginStep s))).obs = none := by
  cases c <;> rfl

/-- R19: which call is pending. -/
theorem pendingCall_iff (s : State) (c : SinkCall) :
    pendingCall s = some c ↔ s.phase ≠ .halt ∧ (c = .send ∧ s.st = .send ∨ c = .flush ∧ s.st = .flush) := by
  refine ⟨pendingCall_some, fun ⟨hp, hcall⟩ => ?_⟩
  cases hphase : s.phase with
  | halt => exact absurd hphase hp
  | init | run => rcases hcall with ⟨rfl, hs⟩ | ⟨rfl, hs⟩ <;> simp [pendingCall, hphase, hs]

/-! ### Writers of VOL and PHASE -/

/-- Settles O44: of all the things a step can do, only a message and a reset write VOL. -/
theorem onlyVolumeMessagesWriteVol : Obligations.OnlyVolumeMessagesWriteVol := by
  intro s t hstep hne
  obtain ⟨-, hdid⟩ := step_next hstep
  cases hdid with
  | reset _ h => exact .inl (by simp [h])
  | message w ws hp hs hq _ h =>
    refine .inr ⟨w, ws, hp, hs, hq, by simp [h], ?_⟩
    have hvol : t.vol = volAfter s.vol w := by simp [h]
    rw [hvol] at hne ⊢
    unfold volAfter at hne ⊢
    split_ifs at hne ⊢ with hup hdown
    · exact .inl ⟨hup, rfl⟩
    · exact .inr ⟨hdown, rfl⟩
    · exact absurd rfl hne
  | nothing h | initSend _ _ _ _ h | sinkOk _ _ _ h | sinkErr _ _ _ h | counted _ _ _ _ h | ticked _ h
  | initPaced _ _ _ _ _ h | lastInitPaced _ _ _ _ h | runPaced _ _ _ h | dropped _ _ _ _ h | enqueued _ _ _ _ _ h
  | suspended _ _ _ _ _ h | catalog _ _ _ _ _ h =>
    exact absurd (by simp [h]) hne

/-- Settles O45: only a reset, the last end of pacing of phase INIT and an error answer in phase INIT write PHASE. -/
theorem phaseTransitions : Obligations.PhaseTransitions := by
  intro s t hstep hne
  obtain ⟨-, hdid⟩ := step_next hstep
  cases hdid with
  | reset _ h => exact .inl (by simp [h])
  | lastInitPaced hp hs hn hk h => exact .inr (.inl ⟨hp, by simp [h], hk, hs, hn⟩)
  | sinkErr c _ _ h =>
    by_cases hp : s.phase = .init
    · exact .inr (.inr ⟨hp, by simp [h, takeTransportError_phase, hp], c, by simp [h]⟩)
    · exact absurd (by simp [h, takeTransportError_phase, hp]) hne
  | nothing h | initSend _ _ _ _ h | message _ _ _ _ _ _ h | sinkOk _ _ _ h | counted _ _ _ _ h | ticked _ h
  | initPaced _ _ _ _ _ h | runPaced _ _ _ h | dropped _ _ _ _ h | enqueued _ _ _ _ _ h
  | suspended _ _ _ _ _ h | catalog _ _ _ _ _ h =>
    exact absurd (by simp [h]) hne

/-! ### Transport errors -/

/-- A step shows a transport error exactly where it took the error answer to the pending call (R129, R153). -/
theorem txErrorOf_step {s t : State} (hstep : step s = .next t) (c : SinkCall) :
    txErrorOf t.obs = some c ↔ nextAction s = .sink c .err ∧ pendingCall s = some c := by
  obtain ⟨hw, hdid⟩ := step_next hstep
  constructor
  · intro herr
    cases hdid with
    | sinkErr d ha hc h =>
      have hcd : d = c := by simpa [h, txErrorOf] using herr
      exact hcd ▸ ⟨ha, hc⟩
    | sinkOk d _ _ h => simp [h, txErrorOf_sinkOk] at herr
    | nothing h | initSend _ _ _ _ h | message _ _ _ _ _ _ h | counted _ _ _ _ h | ticked _ h
    | initPaced _ _ _ _ _ h | lastInitPaced _ _ _ _ h | runPaced _ _ _ h | dropped _ _ _ _ h | enqueued _ _ _ _ _ h
    | suspended _ _ _ _ _ h | catalog _ _ _ _ _ h | reset _ h =>
      simp [h, txErrorOf] at herr
  · rintro ⟨ha, hc⟩
    have hc' : pendingCall (beginStep s) = some c := hc
    rw [step_of_sink hw ha] at hstep
    cases hstep
    simp [sinkAnswer, hc', txErrorOf]

/-- Settles O59: `err_strobe` and `err_kind` read the transport error that the step shows. -/
theorem errStrobeShowsATransportError : Obligations.ErrStrobeShowsATransportError := by
  intro s t hstep
  have herr := txErrorOf_step hstep
  have shown : errStrobe t = true → ∃ c, txErrorOf t.obs = some c := Option.isSome_iff_exists.1
  have strobe : ∀ c, txErrorOf t.obs = some c → errStrobe t = true := fun c hc => by simp [errStrobe, hc]
  have kind : ∀ c, txErrorOf t.obs = some c → errKind t = some (txKindCode c) := fun c hc => by simp [errKind, hc]
  refine ⟨⟨fun hon => ?_, ?_⟩, fun hon hs => ?_, fun hon hs => ?_⟩
  · obtain ⟨c, hc⟩ := shown hon
    obtain ⟨ha, hpending⟩ := (herr c).1 hc
    obtain ⟨hp, ⟨rfl, hs⟩ | ⟨rfl, hs⟩⟩ := pendingCall_some hpending
    · exact ⟨hp, .inl ⟨ha, hs⟩⟩
    · exact ⟨hp, .inr ⟨ha, hs⟩⟩
  · rintro ⟨hp, ⟨ha, hs⟩ | ⟨ha, hs⟩⟩
    · exact strobe .send ((herr .send).2 ⟨ha, (pendingCall_iff s _).2 ⟨hp, .inl ⟨rfl, hs⟩⟩⟩)
    · exact strobe .flush ((herr .flush).2 ⟨ha, (pendingCall_iff s _).2 ⟨hp, .inr ⟨rfl, hs⟩⟩⟩)
  · obtain ⟨c, hc⟩ := shown hon
    obtain ⟨-, ⟨rfl, -⟩ | ⟨-, hflush⟩⟩ := pendingCall_some ((herr c).1 hc).2
    · exact kind .send hc
    · simp [hs] at hflush
  · obtain ⟨c, hc⟩ := shown hon
    obtain ⟨-, ⟨-, hsend⟩ | ⟨rfl, -⟩⟩ := pendingCall_some ((herr c).1 hc).2
    · simp [hs] at hsend
    · exact kind .flush hc

/-! ### Single steps of the agents -/

/-- Settles O34: R24 at the Sink's port. -/
theorem strayAnswersAreIgnored : Obligations.StrayAnswersAreIgnored := by
  intro s c a rest hw hsched hsend hflush
  have hstray : pendingCall (beginStep s) ≠ some c := fun hc => by
    obtain ⟨-, hcall⟩ := pendingCall_some hc
    exact hcall.elim hsend hflush
  have hignored : sinkAnswer c a (beginStep s) = noStep (beginStep s) := if_neg hstray
  rw [step_of_sink hw (nextAction_cons hsched), hignored]
  simp [noStep, observe, beginStep, hsched]

/-- Settles O36: the Dispatcher's step at ST = PACE, with R132's tests on INIT_IDX before the step. -/
theorem pacingDelayEnds : Obligations.PacingDelayEnds := by
  intro s hw hhalt _ ha hs
  have hp : s.phase ≠ .halt := fun h => by simp [hhalt h] at hs
  have hstep := step_of_pace hw ha hp hs
  refine ⟨fun hn hinit hk => ?_, fun hn hinit hk => ?_, fun hn hrun => ?_, fun hn => ?_⟩
  · rw [hstep, if_pos hn]
    exact endPace_init (s := beginStep s) hinit hk
  · rw [hstep, if_pos hn]
    exact endPace_lastInit (s := beginStep s) hinit hk
  · rw [hstep, if_pos hn]
    exact endPace_run (s := beginStep s) hrun
  · rw [hstep, if_neg (Nat.ne_of_gt hn)]
    rfl

/-- Settles O37: the three arms of the producer port, told by R59 in numbers and the capacity of R6. -/
theorem offersAtTheProducerPort : Obligations.OffersAtTheProducerPort := by
  intro s p w rest hw hsched tag valid
  have hcap : s.cfg.qCap = 10 := ((Scope.config_wellFormed_iff s.cfg).1 hw).1
  have hvalid : msgValid s.cfg w = true ↔ valid := msgValid_iff s.cfg w
  have hstep := step_of_offer hw (nextAction_cons hsched)
  refine ⟨fun hv => ?_, fun hv hroom => ?_, fun hv hfull => ?_⟩
  · have hbad : msgValid s.cfg w = false := by simpa using mt hvalid.1 hv
    simp [hstep, offerWord, enqReady, hbad, observe, beginStep, hsched]
  · simp [hstep, offerWord, enqReady, hvalid.2 hv, hcap, hroom, observe, qEnq, beginStep, hsched]
  · simp [hstep, offerWord, enqReady, hvalid.2 hv, hcap, Nat.not_lt.2 hfull, observe, beginStep, hsched]

/-- Settles O48: `step` starts by emptying `obs`, and the action's producer reaches no operation. -/
theorem producersAndPastAreInvisible : Obligations.ProducersAndPastAreInvisible :=
  fun _ _ _ _ _ _ => ⟨rfl, rfl⟩

/-! ### The flags and the output ports -/

/-- Settles O39: each value is `State.resetFor`'s own, and an empty queue is not full since `Q_CAP` is 10. -/
theorem resetValues : Obligations.ResetValues := by
  intro c s
  have hfull : c.wellFormed = true → qFull s = false := fun hw => by
    have hcap : c.qCap = 10 := ((Scope.config_wellFormed_iff c).1 hw).1
    simp [qFull, s, hcap]
  exact ⟨rfl, rfl, rfl, rfl, rfl, rfl, rfl, hfull, rfl, rfl, fun rst => by cases rst <;> exact ⟨rfl, rfl⟩, rfl,
    rfl, rfl⟩

/-- Settles O58: each flag is the test that R20 and R24 name; `q_count_o` is wide enough for a queue of ten. -/
theorem flagsAndPortsShowTheState : Obligations.FlagsAndPortsShowTheState := by
  refine ⟨fun s hi => ?_, fun f => ⟨rfl, rfl, rfl⟩, rfl, rfl, rfl, rfl, rfl, rfl, rfl⟩
  have hcap : s.cfg.qCap = 10 := ((Scope.config_wellFormed_iff s.cfg).1 hi.configOk).1
  have hlen : s.q.length ≤ 10 := hcap ▸ hi.queueBounded
  have hcount : (qCountO s).toNat = s.q.length := Nat.mod_eq_of_lt (by omega)
  refine ⟨by simp [qEmpty], by simp [qFull, hcap], by simp [halted], by simp [busy], hcount, rfl, fun _ => rfl,
    fun rst => ⟨?_, ?_, fun w => ?_⟩⟩
  · cases rst <;> simp
  · cases rst <;> simp
  · cases rst <;> simp [enqReady, hcap]

end Sys2Proof.Proofs.Registers
end

section
/-! PROOFS, 10_state.md. One clean round, told from its end: the pacing delay, the two answers of the Sink, the dequeue.
Each lemma runs from a later state of the round to its end, and the next one puts one step before it. -/

namespace Sys2Proof.Proofs.CleanRound

open Sys2Proof.Machine Sys2Proof.Safety Sys2Proof.Proofs.StepRules Sys2Proof.Proofs.Registers

/-! ### Runs, one step and one run after another -/

theorem runShows_step {n : Nat} {s t u : State} {es : List Event} (hstep : step s = .next t)
    (hrun : runShows n t = some (u, es)) : runShows (n + 1) s = some (u, t.obs ++ es) := by
  simp only [runShows, hstep, hrun]

theorem runShows_append {m n : Nat} {s t u : State} {es fs : List Event} (hm : runShows m s = some (t, es))
    (hn : runShows n t = some (u, fs)) : runShows (m + n) s = some (u, es ++ fs) := by
  induction m generalizing s es with
  | zero =>
    cases hm
    simpa using hn
  | succ m ih =>
    cases hstep : step s with
    | fault r | refused r => simp [runShows, hstep] at hm
    | next s₁ =>
      cases hrest : runShows m s₁ with
      | none => simp [runShows, hstep, hrest] at hm
      | some p =>
        obtain ⟨v, gs⟩ := p
        simp only [runShows, hstep, hrest] at hm
        cases hm
        rw [Nat.succ_add, runShows_step hstep (ih hrest), List.append_assoc]

/-! ### The steps of the round -/

section
variable {s : State} (hw : s.cfg.wellFormed = true)
include hw

theorem step_of_sinkOk {c : SinkCall} (ha : nextAction s = .sink c .ok) (hc : pendingCall s = some c) :
    step s = .next (sinkOk c (observe (.answered c .ok) (beginStep s))) := by
  have hc' : pendingCall (beginStep s) = some c := hc
  rw [step_of_sink hw ha, sinkAnswer, if_pos hc']

theorem step_of_countedTick (ha : nextAction s = .tick) (hp : s.phase ≠ .halt) (hs : s.st = .pace)
    (hn : 0 < s.paceCnt) : step s = .next (observe .tick { beginStep s with paceCnt := s.paceCnt - 1 }) := by
  have hcond : (beginStep s).phase ≠ .halt ∧ (beginStep s).st = .pace ∧ 0 < (beginStep s).paceCnt := ⟨hp, hs, hn⟩
  rw [step_of_tick hw ha, tickClock, if_pos hcond]
  rfl

end

/-! ### From each state of the round to its end -/

/-- The ticks of the pacing delay count PACE_CNT down to 0 and change nothing else (R131). -/
theorem runShows_ticks (n : Nat) {s : State} {rest : List Action} (hw : s.cfg.wellFormed = true)
    (hp : s.phase ≠ .halt) (hs : s.st = .pace) (hn : s.paceCnt = n)
    (hsched : s.sched = List.replicate n .tick ++ rest) :
    ∃ t, runShows n s = some (t, List.replicate n .tick) ∧ SameBlock t { s with paceCnt := 0 } ∧ t.sched = rest := by
  induction n generalizing s with
  | zero => exact ⟨s, rfl, ⟨rfl, rfl, rfl, rfl, hn, rfl, rfl, fun _ => rfl⟩, hsched⟩
  | succ n ih =>
    have hstep := step_of_countedTick hw (nextAction_cons hsched) hp hs (by omega)
    obtain ⟨t, hrun, hsame, hrest⟩ :=
      ih (s := observe .tick { beginStep s with paceCnt := s.paceCnt - 1 }) hw hp hs (by simp [hn]) (by simp [hsched])
    exact ⟨t, runShows_step hstep hrun, hsame, hrest⟩

section
variable {s : State} {rest : List Action} (hw : s.cfg.wellFormed = true) (hp : s.phase = .run)
include hw hp

theorem runShows_fromPace (hs : s.st = .pace)
    (hsched : s.sched = List.replicate s.paceCnt .tick ++ .dispatcher :: rest) :
    ∃ t, runShows (s.paceCnt + 1) s = some (t, List.replicate s.paceCnt .tick ++ [.endPace]) ∧
      SameBlock t { s with st := .idle, paceCnt := 0 } ∧ t.sched = rest := by
  obtain ⟨t, hticks, ⟨hvol, hphase, hidx, hst, hpace, hq, hcfg, -⟩, hrest⟩ :=
    runShows_ticks s.paceCnt hw (by simp [hp]) hs rfl hsched
  have hrun : t.phase = .run := hphase.trans hp
  have hstep : step t = .next (observe .endPace { beginStep t with st := .idle }) := by
    rw [step_of_pace (hcfg ▸ hw) (nextAction_cons hrest) (by simp [hrun]) (hst.trans hs), if_pos hpace]
    exact endPace_run (s := beginStep t) hrun
  exact ⟨_, runShows_append hticks (runShows_step hstep rfl),
    ⟨hvol, hphase, hidx, rfl, hpace, hq, hcfg, fun h => nomatch h⟩, by simp [hrest]⟩

theorem runShows_fromFlush (hs : s.st = .flush)
    (hsched : s.sched = .sink .flush .ok :: List.replicate s.cfg.paceTicks .tick ++ .dispatcher :: rest) :
    ∃ t, runShows (s.cfg.paceTicks + 2) s =
        some (t, .answered .flush .ok :: List.replicate s.cfg.paceTicks .tick ++ [.endPace]) ∧
      SameBlock t { s with st := .idle, paceCnt := 0 } ∧ t.sched = rest := by
  have hcall : pendingCall s = some .flush := (pendingCall_iff s _).2 ⟨by simp [hp], .inr ⟨rfl, hs⟩⟩
  have hstep := step_of_sinkOk hw (nextAction_cons hsched) hcall
  obtain ⟨t, hrun, hsame, hrest⟩ :=
    runShows_fromPace (s := sinkOk .flush (observe (.answered .flush .ok) (beginStep s))) hw hp rfl
      (congrArg List.tail hsched)
  exact ⟨t, runShows_step hstep hrun, hsame, hrest⟩

theorem runShows_fromSend (hs : s.st = .send) (hsched : s.sched = (cleanRound s.cfg).tail ++ rest) :
    ∃ t, runShows (s.cfg.paceTicks + 3) s = some (t, cleanRoundShows s.cfg) ∧
      SameBlock t { s with st := .idle, paceCnt := 0 } ∧ t.sched = rest := by
  have hactions : s.sched = .sink .send .ok :: .sink .flush .ok :: List.replicate s.cfg.paceTicks .tick ++
      .dispatcher :: rest := by simp [hsched, cleanRound]
  have hcall : pendingCall s = some .send := (pendingCall_iff s _).2 ⟨by simp [hp], .inl ⟨rfl, hs⟩⟩
  have hstep := step_of_sinkOk hw (nextAction_cons hactions) hcall
  obtain ⟨t, hrun, hsame, hrest⟩ :=
    runShows_fromFlush (s := sinkOk .send (observe (.answered .send .ok) (beginStep s))) hw hp rfl
      (congrArg List.tail hactions)
  exact ⟨t, runShows_step hstep hrun, hsame, hrest⟩

end

/-- Settles O56: the dequeue (R133), then the rest of the round from ST = SEND. -/
theorem oneRoundServesOneMessage : Obligations.OneRoundServesOneMessage := by
  intro s w ws rest hw hp hs hq htag hsched
  have hstep := step_of_message hw (nextAction_cons hsched) hp hs hq htag
  obtain ⟨t, hrun, hsame, hrest⟩ :=
    runShows_fromSend (s := startSend (messageFrame s.vol w)
      { beginStep s with q := ws, obs := [.dequeued w], vol := volAfter s.vol w }) hw hp rfl (congrArg List.tail hsched)
  obtain ⟨hvol, hphase, hidx, hst, hpace, hqueue, hcfg, -⟩ := hsame
  have hidle : t.st ≠ .send := fun h => nomatch hst.symm.trans h
  exact ⟨t, runShows_step hstep hrun,
    ⟨hvol, hphase, hidx, hst.trans hs.symm, hpace, hqueue, hcfg, fun h => absurd h hidle⟩, hrest⟩

end Sys2Proof.Proofs.CleanRound
end

section
/-! PROOFS, 20_memory.md. Runs: the registers after an answer of the Sink, what the lists of events of two parts of a run
say of the whole, and the induction that carries a statement about the state and the events shown so far along a run. -/

namespace Sys2Proof.Proofs.Runs

open Sys2Proof.Machine Sys2Proof.Safety

/-! ### What the Sink's answers write, show and leave unchanged -/

@[simp] theorem sinkOk_q (c : SinkCall) (s : State) : (sinkOk c s).q = s.q := by
  cases c <;> rfl

@[simp] theorem sinkOk_cfg (c : SinkCall) (s : State) : (sinkOk c s).cfg = s.cfg := by
  cases c <;> rfl

@[simp] theorem sinkOk_initIdx (c : SinkCall) (s : State) : (sinkOk c s).initIdx = s.initIdx := by
  cases c <;> rfl

theorem sinkOk_busy (c : SinkCall) (s : State) : (sinkOk c s).st ≠ .idle := by
  cases c <;> simp [sinkOk]

/-- R128: `send_ok` shows the call of the flush, `flush_ok` no call. -/
theorem sinkOk_obs (c : SinkCall) (s : State) :
    (sinkOk c s).obs = s.obs ++ if c = .send then [.flush] else [] := by
  cases c <;> simp [sinkOk]

@[simp] theorem takeTransportError_q (c : SinkCall) (s : State) : (takeTransportError c s).q = s.q := by
  unfold takeTransportError afterError
  split <;> rfl

@[simp] theorem takeTransportError_cfg (c : SinkCall) (s : State) : (takeTransportError c s).cfg = s.cfg := by
  unfold takeTransportError afterError
  split <;> rfl

theorem takeTransportError_ready {s : State} {c : SinkCall} (hp : s.phase ≠ .halt) :
    (takeTransportError c s).st ≠ .send ∧ (takeTransportError c s).st ≠ .flush := by
  cases hphase : s.phase with
  | halt => exact absurd hphase hp
  | init => simp [takeTransportError_init c hphase]
  | run => simp [takeTransportError_run c hphase]

/-! ### The events of two parts of a run -/

@[simp] theorem sentFrames_append (es fs : List Event) : sentFrames (es ++ fs) = sentFrames es ++ sentFrames fs :=
  List.filterMap_append

@[simp] theorem enqueuedWords_append (es fs : List Event) :
    enqueuedWords (es ++ fs) = enqueuedWords es ++ enqueuedWords fs :=
  List.filterMap_append

@[simp] theorem dequeuedWords_append (es fs : List Event) :
    dequeuedWords (es ++ fs) = dequeuedWords es ++ dequeuedWords fs :=
  List.filterMap_append

@[simp] theorem noReset_append (es fs : List Event) :
    noReset (es ++ fs) = true ↔ noReset es = true ∧ noReset fs = true := by
  simp [noReset, List.all_append]

/-! ### Induction along a run -/

/-- A run of `n + 1` steps is a step and a run of `n` steps. -/
theorem runShows_succ {n : Nat} {s u : State} {es : List Event} (h : runShows (n + 1) s = some (u, es)) :
    ∃ t fs, step s = .next t ∧ runShows n t = some (u, fs) ∧ es = t.obs ++ fs := by
  cases hstep : step s with
  | fault r | refused r => simp [runShows, hstep] at h
  | next t =>
    cases hrest : runShows n t with
    | none => simp [runShows, hstep, hrest] at h
    | some p =>
      obtain ⟨v, fs⟩ := p
      simp only [runShows, hstep, hrest, Option.some.injEq, Prod.mk.injEq] at h
      obtain ⟨rfl, rfl⟩ := h
      exact ⟨t, fs, rfl, hrest, rfl⟩

/-- What every step carries on, a run carries on: `P u fs` speaks of the state `u` and the events `fs` shown up to it. -/
theorem runShows_carries {P : State → List Event → Prop}
    (hstep : ∀ {u v : State} {fs : List Event}, step u = .next v → P u fs → P v (fs ++ v.obs))
    {n : Nat} {s t : State} {es before : List Event} (hrun : runShows n s = some (t, es)) (hs : P s before) :
    P t (before ++ es) := by
  induction n generalizing s es before with
  | zero =>
    cases hrun
    simpa using hs
  | succ n ih =>
    obtain ⟨u, fs, hfirst, hrest, rfl⟩ := runShows_succ hrun
    rw [← List.append_assoc]
    exact ih hrest (hstep hfirst hs)

/-- The same for the runs without a reset. -/
theorem runShows_carries_noReset {P : State → List Event → Prop}
    (hstep : ∀ {u v : State} {fs : List Event}, step u = .next v → noReset v.obs = true → P u fs → P v (fs ++ v.obs))
    {n : Nat} {s t : State} {es : List Event} (hrun : runShows n s = some (t, es)) (hreset : noReset es = true)
    (hs : P s []) : P t es := by
  refine runShows_carries (P := fun u fs => noReset fs = true → P u fs) (before := []) ?_ hrun (fun _ => hs) hreset
  intro u v fs hfirst hP hfs
  obtain ⟨hbefore, hobs⟩ := (noReset_append fs v.obs).1 hfs
  exact hstep hfirst hobs (hP hbefore)

end Sys2Proof.Proofs.Runs
end

section
/-! PROOFS, 20_memory.md. The queue from its two ends: the dequeue and dispatch of R133, and the order of the words over
a run (R31, R36). -/

namespace Sys2Proof.Proofs.Queue

open Sys2Proof.Machine Sys2Proof.Safety Sys2Proof.Proofs.StepRules Sys2Proof.Proofs.Runs

/-! ### Dequeue and dispatch -/

/-- R59: tags 6 and 7 are no message's. -/
theorem decode_message_of_badTag {w : MsgWord} (htag : 5 < (msgTag w).toNat) :
    decode (.message w) = .malformedTag := by
  have hlt : (msgTag w).toNat < 8 := (msgTag w).isLt
  interval_cases hk : (msgTag w).toNat <;> simp [decode, decodeMessage, hk]

section
variable {s : State} (hp : s.phase = .run) (hs : s.st = .idle)
include hp hs

theorem dispatcherTurn_emptyQueue (hq : s.q = []) : dispatcherTurn s = .done (.next (noStep s)) := by
  simp [dispatcherTurn, messageTurn, qDeq, hp, hs, hq]

theorem dispatcherTurn_badTag {w : MsgWord} {ws : List MsgWord} (hq : s.q = w :: ws) (htag : 5 < (msgTag w).toNat) :
    dispatcherTurn s = .done (.fault .malformedInQueue) := by
  simp [dispatcherTurn, messageTurn, qDeq, hp, hs, hq, decode_message_of_badTag htag]

end

/-- Settles O31: the Dispatcher's turn on an empty queue, on a head that decodes and on one that does not. -/
theorem dequeueAndDispatch : Obligations.DequeueAndDispatch := by
  intro s hw ha hp hs
  refine ⟨fun hq => ?_, fun w ws hq => ⟨fun htag => ?_, fun htag => ?_⟩⟩
  · exact step_of_dispatcher_done hw ha (dispatcherTurn_emptyQueue (s := beginStep s) hp hs hq)
  · exact step_of_message hw ha hp hs hq htag
  · exact step_of_dispatcher_done hw ha (dispatcherTurn_badTag (s := beginStep s) hp hs hq htag)

/-! ### First in, first out -/

/-- One step: a dequeue takes the head, an accepted offer goes to the tail, and nothing else moves a word. -/
theorem queue_step {s t : State} (hstep : step s = .next t) (hreset : noReset t.obs = true) :
    s.q ++ enqueuedWords t.obs = dequeuedWords t.obs ++ t.q := by
  obtain ⟨-, hdid⟩ := step_next hstep
  cases hdid with
  | message w ws _ _ hq _ h => simp [h, hq, enqueuedWords, dequeuedWords]
  | enqueued _ w _ _ _ h => simp [h, enqueuedWords, dequeuedWords]
  | sinkOk c _ _ h => cases c <;> simp [h, sinkOk_obs, enqueuedWords, dequeuedWords]
  | reset _ h => simp [h, noReset] at hreset
  | nothing h | initSend _ _ _ _ h | sinkErr _ _ _ h | counted _ _ _ _ h | ticked _ h | initPaced _ _ _ _ _ h
  | lastInitPaced _ _ _ _ h | runPaced _ _ _ h | dropped _ _ _ _ h | suspended _ _ _ _ _ h | catalog _ _ _ _ _ h =>
    simp [h, enqueuedWords, dequeuedWords]

/-- Settles O49: the equation holds before the first step and each step carries it on. -/
theorem queueIsFirstInFirstOut : Obligations.QueueIsFirstInFirstOut := by
  intro n s t es hrun hreset
  refine runShows_carries_noReset (P := fun u fs => s.q ++ enqueuedWords fs = dequeuedWords fs ++ u.q)
    (fun {u v fs} hstep hobs hP => ?_) hrun hreset (by simp [enqueuedWords, dequeuedWords])
  calc s.q ++ enqueuedWords (fs ++ v.obs)
      = dequeuedWords fs ++ (u.q ++ enqueuedWords v.obs) := by
        rw [enqueuedWords_append, ← List.append_assoc, hP, List.append_assoc]
    _ = dequeuedWords (fs ++ v.obs) ++ v.q := by
        rw [queue_step hstep hobs, dequeuedWords_append, List.append_assoc]

end Sys2Proof.Proofs.Queue
end

section
/-! PROOFS, 20_memory.md. The two external interfaces: the catalog port, which no later step notices (R46), and the calls
on the Sink, their frames and their order (R41 to R43). -/

namespace Sys2Proof.Proofs.Interfaces

open Sys2Proof.Machine Sys2Proof.Safety Sys2Proof.Proofs.StepRules Sys2Proof.Proofs.Registers Sys2Proof.Proofs.Runs
open Sys2Proof.Proofs.Invariant

/-! ### The catalog port -/

/-- Settles O23: the evaluation leaves its result in `obs` only, which no step reads (R22). -/
theorem catalogUsersDisturbNothing : Obligations.CatalogUsersDisturbNothing := by
  intro s t sel a b rest hsched hstep
  obtain ⟨hw, -⟩ := step_next hstep
  obtain ⟨r, hr⟩ := step_of_catalog hw (nextAction_cons hsched)
  have ht : t = { s with sched := rest, obs := [.catalog r] } := by
    cases hr.symm.trans hstep
    simp [observe, beginStep, hsched]
  obtain ⟨-, hpast⟩ := producersAndPastAreInvisible { s with sched := rest } 0 0 0 [] [.catalog r]
  rw [ht]
  exact hpast

/-! ### The frames handed to `send` -/

/-- A step that calls `send` is a `start_send` (R127) of a well-formed frame, taken at ST = IDLE. -/
theorem step_send {s t : State} {f : Frame} (hstep : step s = .next t) (hsend : Event.send f ∈ t.obs) :
    s.st = .idle ∧ frameWellFormed f = true ∧ ∃ u, t = startSend f u := by
  obtain ⟨-, hdid⟩ := step_next hstep
  cases hdid with
  | initSend g _ hs hg h =>
    have hfg : f = g := by simpa [h] using hsend
    subst hfg
    refine ⟨hs, ?_, _, h⟩
    rcases hg with ⟨-, rfl⟩ | ⟨-, rfl⟩ | ⟨-, rfl⟩ <;> exact frameWellFormed_encodeFrame _ _ _
  | message w ws _ hs _ _ h =>
    have hfw : f = messageFrame s.vol w := by simpa [h] using hsend
    subst hfw
    exact ⟨hs, frameWellFormed_messageFrame _ _, _, h⟩
  | sinkOk c _ _ h => cases c <;> simp [h, sinkOk_obs] at hsend
  | nothing h | sinkErr _ _ _ h | counted _ _ _ _ h | ticked _ h | initPaced _ _ _ _ _ h | lastInitPaced _ _ _ _ h
  | runPaced _ _ _ h | dropped _ _ _ _ h | enqueued _ _ _ _ _ h | suspended _ _ _ _ _ h | catalog _ _ _ _ _ h
  | reset _ h =>
    simp [h] at hsend

/-- Settles O46: `start_send` writes the frame to FRAME_REG, which `tx_frame` shows, and ST. -/
theorem sentFramesAreWellFormed : Obligations.SentFramesAreWellFormed := by
  intro s t f hstep hsend
  obtain ⟨hs, hf, u, rfl⟩ := step_send hstep hsend
  exact ⟨hf, rfl, rfl, hs, rfl⟩

/-! ### The order of the calls -/

/-- The protocol's check is a run of its states that never stops. -/
theorem sinkOrderly_of_foldlM {p p' : SinkState} {es : List Event} (h : es.foldlM sinkStep p = some p') :
    sinkOrderly p es = true := by
  induction es generalizing p with
  | nil => rfl
  | cons e es ih =>
    rw [List.foldlM_cons] at h
    obtain ⟨q, hq, hrest⟩ := Option.bind_eq_some_iff.1 h
    simp only [sinkOrderly, hq]
    exact ih hrest

/-! Where a state stands in the protocol (R19). -/

theorem sinkStateOf_ready {s : State} (hsend : s.st ≠ .send) (hflush : s.st ≠ .flush) : sinkStateOf s = .free := by
  cases hc : pendingCall s with
  | none => simp only [sinkStateOf, hc]
  | some c =>
    obtain ⟨-, ⟨-, hs⟩ | ⟨-, hs⟩⟩ := pendingCall_some hc
    · exact absurd hs hsend
    · exact absurd hs hflush

theorem sinkStateOf_send {s : State} (hp : s.phase ≠ .halt) (hs : s.st = .send) : sinkStateOf s = .sendPending := by
  simp only [sinkStateOf, (pendingCall_iff s .send).2 ⟨hp, .inl ⟨rfl, hs⟩⟩]

theorem sinkStateOf_flush {s : State} (hp : s.phase ≠ .halt) (hs : s.st = .flush) : sinkStateOf s = .flushPending := by
  simp only [sinkStateOf, (pendingCall_iff s .flush).2 ⟨hp, .inr ⟨rfl, hs⟩⟩]

/-- Between two steps the flush that a `send_ok` asks for has been called. -/
theorem sinkStateOf_ne_sendOk (s : State) : sinkStateOf s ≠ .sendOk := by
  unfold sinkStateOf
  split <;> simp

/-- An event that is no call, no answer and no reset leaves the protocol where it stands. -/
theorem sinkStep_other {p : SinkState} {e : Event} (hp : p ≠ .sendOk) (hsend : ∀ f, e ≠ .send f)
    (hflush : e ≠ .flush) (hanswer : ∀ c a, e ≠ .answered c a) (hreset : e ≠ .reset) : sinkStep p e = some p := by
  cases p with
  | sendOk => exact absurd rfl hp
  | free | sendPending | flushPending => cases e <;> simp_all [sinkStep]

/-- One step takes the protocol from where the state before stands to where the state after stands. -/
theorem sinkState_follows_step {s t : State} (hstep : step s = .next t) :
    t.obs.foldlM sinkStep (sinkStateOf s) = some (sinkStateOf t) := by
  obtain ⟨-, hdid⟩ := step_next hstep
  have hne := sinkStateOf_ne_sendOk s
  cases hdid with
  | nothing h | ticked _ h | dropped _ _ _ _ h | enqueued _ _ _ _ _ h | suspended _ _ _ _ _ h | catalog _ _ _ _ _ h =>
    have hsame : sinkStateOf t = sinkStateOf s := by rw [h]; rfl
    rw [hsame]
    simp [h, sinkStep_other hne]
  | counted _ _ hs _ h | initPaced _ _ hs _ _ h | lastInitPaced _ hs _ _ h | runPaced _ hs _ h =>
    rw [sinkStateOf_ready (s := s) (by simp [hs]) (by simp [hs]),
      sinkStateOf_ready (s := t) (by simp [h, hs]) (by simp [h, hs])]
    simp [h, sinkStep]
  | initSend _ hp hs _ h | message _ _ hp hs _ _ h =>
    rw [sinkStateOf_ready (s := s) (by simp [hs]) (by simp [hs]),
      sinkStateOf_send (s := t) (by simp [h, hp]) (by simp [h])]
    simp [h, sinkStep]
  | sinkOk c _ hc h =>
    obtain ⟨hp, ⟨rfl, hs⟩ | ⟨rfl, hs⟩⟩ := pendingCall_some hc
    · rw [sinkStateOf_send hp hs, sinkStateOf_flush (s := t) (by simpa [h] using hp) (by rw [h]; rfl)]
      simp [h, sinkOk_obs, sinkStep]
    · rw [sinkStateOf_flush hp hs, sinkStateOf_ready (s := t) (by simp [h, sinkOk]) (by simp [h, sinkOk])]
      simp [h, sinkOk_obs, sinkStep]
  | sinkErr c _ hc h =>
    obtain ⟨hp, hcall⟩ := pendingCall_some hc
    obtain ⟨hsend, hflush⟩ := takeTransportError_ready (s := observe (.answered c .err) (beginStep s)) (c := c) hp
    rw [sinkStateOf_ready (s := t) (h ▸ hsend) (h ▸ hflush)]
    rcases hcall with ⟨rfl, hs⟩ | ⟨rfl, hs⟩
    · simp [h, sinkStateOf_send hp hs, sinkStep]
    · simp [h, sinkStateOf_flush hp hs, sinkStep]
  | reset _ h =>
    rw [sinkStateOf_ready (s := t) (by simp [h]) (by simp [h])]
    simp [h, sinkStep]

/-- Settles O52: from where the first state stands, the protocol follows the run to where the last state stands. -/
theorem sinkCallsKeepTheirOrder : Obligations.SinkCallsKeepTheirOrder := by
  intro n s t es hrun
  refine sinkOrderly_of_foldlM (p' := sinkStateOf t) ?_
  refine runShows_carries (P := fun u fs => fs.foldlM sinkStep (sinkStateOf s) = some (sinkStateOf u)) (before := [])
    (fun {u v fs} hstep hP => ?_) hrun rfl
  rw [List.foldlM_append, hP]
  exact sinkState_follows_step hstep

end Sys2Proof.Proofs.Interfaces
end

section
/-! PROOFS, 20_memory.md. The frames from reset on: those of the initialization sequence, then those of the messages, told
by how many of the first three were sent (R123, R141). -/

namespace Sys2Proof.Proofs.Boot

open Sys2Proof.Machine Sys2Proof.Safety Sys2Proof.Proofs.Registers Sys2Proof.Proofs.Runs

/-! ### Counting the initialization frames -/

theorem messageFrames_append (vol : Byte) (ws vs : List MsgWord) :
    messageFrames vol (ws ++ vs) = messageFrames vol ws ++ messageFrames (ws.foldl volAfter vol) vs := by
  induction ws generalizing vol with
  | nil => rfl
  | cons w ws ih => simp [messageFrames, ih]

/-- How many initialization frames a state before HALT has behind it: INIT_IDX counts those whose pacing delay ended, and
a call or a delay under way is one more. -/
def initSent (s : State) : Nat :=
  match s.phase with
  | .init => if s.st = .idle then s.initIdx.toNat else s.initIdx.toNat + 1
  | .run => 3
  | .halt => 3

theorem initSent_idle {s : State} (hp : s.phase = .init) (hs : s.st = .idle) : initSent s = s.initIdx.toNat := by
  simp [initSent, hp, hs]

theorem initSent_busy {s : State} (hp : s.phase = .init) (hs : s.st ≠ .idle) : initSent s = s.initIdx.toNat + 1 := by
  simp [initSent, hp, hs]

theorem initSent_congr {s t : State} (hp : t.phase = s.phase) (hi : t.initIdx = s.initIdx)
    (hs : t.st = .idle ↔ s.st = .idle) : initSent t = initSent s := by
  simp only [initSent, hp, hi, hs]

theorem initSent_run {s : State} (hp : s.phase = .run) : initSent s = 3 := by
  simp [initSent, hp]

/-- A step that sends nothing does not move the count, unless it halts. -/
theorem initSent_step {s t : State} (hstep : step s = .next t) (hreset : noReset t.obs = true)
    (hsent : sentFrames t.obs = []) (ht : t.phase ≠ .halt) : s.phase ≠ .halt ∧ initSent t = initSent s := by
  obtain ⟨-, hdid⟩ := step_next hstep
  cases hdid with
  | initSend _ _ _ _ h | message _ _ _ _ _ _ h => simp [h, sentFrames] at hsent
  | reset _ h => simp [h, noReset] at hreset
  | sinkOk c _ hc h =>
    obtain ⟨hp, hcall⟩ := pendingCall_some hc
    have hbusy : s.st ≠ .idle := by rcases hcall with ⟨-, hs⟩ | ⟨-, hs⟩ <;> simp [hs]
    exact ⟨hp, initSent_congr (by simp [h]) (by simp [h]) (iff_of_false (h ▸ sinkOk_busy _ _) hbusy)⟩
  | sinkErr c _ hc h =>
    obtain ⟨hp, -⟩ := pendingCall_some hc
    cases hphase : s.phase with
    | halt => exact absurd hphase hp
    | init => exact absurd (by simp [h, takeTransportError_phase, hphase]) ht
    | run =>
      refine ⟨by simp, ?_⟩
      rw [initSent_run (s := t) (by simp [h, takeTransportError_phase, hphase]), initSent_run hphase]
  | initPaced j hp hs _ hj h =>
    refine ⟨by simp [hp], ?_⟩
    rw [initSent_idle (by simpa [h] using hp) (by simp [h]), initSent_busy hp (by simp [hs])]
    rcases hj with ⟨hi, rfl⟩ | ⟨hi, rfl⟩ <;> simp [h, hi]
  | lastInitPaced hp hs _ hi h =>
    refine ⟨by simp [hp], ?_⟩
    rw [initSent_run (by simp [h]), initSent_busy hp (by simp [hs]), hi]
    rfl
  | runPaced hp _ _ h =>
    refine ⟨by simp [hp], ?_⟩
    rw [initSent_run (s := t) (by simpa [h] using hp), initSent_run hp]
  | nothing h | counted _ _ _ _ h | ticked _ h | dropped _ _ _ _ h | enqueued _ _ _ _ _ h | suspended _ _ _ _ _ h
  | catalog _ _ _ _ _ h =>
    rw [h] at ht ⊢
    exact ⟨ht, rfl⟩

/-- After the events `es` from reset, `k` initialization frames were sent, all three before any message was dequeued, and
VOL is where the messages dequeued took it. -/
structure Progress (c : Config) (k : Nat) (s : State) (es : List Event) : Prop where
  cfg     : s.cfg = c
  bound   : k ≤ 3
  count   : s.phase ≠ .halt → initSent s = k
  sent    : sentFrames es = (initFrames c).take k ++ messageFrames c.volDefault (dequeuedWords es)
  vol     : s.vol = (dequeuedWords es).foldl volAfter c.volDefault
  started : dequeuedWords es ≠ [] → k = 3

section
variable {c : Config} {k : Nat} {s t : State} {es : List Event} (hprog : Progress c k s es)
include hprog

theorem progress_silent (hstep : step s = .next t) (hreset : noReset t.obs = true) (hcfg : t.cfg = s.cfg)
    (hvol : t.vol = s.vol) (hsent : sentFrames t.obs = []) (hdeq : dequeuedWords t.obs = []) :
    Progress c k t (es ++ t.obs) where
  cfg := hcfg.trans hprog.cfg
  bound := hprog.bound
  count := fun ht => by
    obtain ⟨hp, hsame⟩ := initSent_step hstep hreset hsent ht
    exact hsame.trans (hprog.count hp)
  sent := by simpa [hsent, hdeq] using hprog.sent
  vol := by simpa [hdeq, hvol] using hprog.vol
  started := by simpa [hdeq] using hprog.started

/-- The frame that INIT_IDX selects is the next one of the three. -/
theorem progress_initSend {f : Frame} (hp : s.phase = .init) (hs : s.st = .idle)
    (hf : (s.initIdx = 0 ∧ f = encodeFrame 0x09 true (paramB8 s.cfg.initSource)) ∨
      (s.initIdx = 1 ∧ f = encodeFrame 0x06 true (paramB8 s.vol)) ∨
      (s.initIdx = 2 ∧ f = encodeFrame 0x03 true (paramP16 s.cfg.welcomeTrack)))
    (ht : t = startSend f (beginStep s)) : Progress c (k + 1) t (es ++ t.obs) := by
  have hk : s.initIdx.toNat = k := (initSent_idle hp hs).symm.trans (hprog.count (by simp [hp]))
  have hlt : k < 3 := by rcases hf with ⟨hi, -⟩ | ⟨hi, -⟩ | ⟨hi, -⟩ <;> simp [hi] at hk <;> omega
  have hnone : dequeuedWords es = [] := by
    by_contra h
    exact absurd (hprog.started h) (by omega)
  have hvol : s.vol = c.volDefault := by simpa [hnone] using hprog.vol
  have hnext : (initFrames c)[k]? = some f := by
    rw [← hk]
    rcases hf with ⟨hi, rfl⟩ | ⟨hi, rfl⟩ | ⟨hi, rfl⟩ <;>
      simp [hi, initFrames, hprog.cfg, hvol, paramB8, paramP16]
  have hdeq : dequeuedWords (es ++ t.obs) = [] := by
    rw [dequeuedWords_append, hnone, ht]
    rfl
  have hsent : sentFrames es = (initFrames c).take k := by simpa [hnone, messageFrames] using hprog.sent
  have hnew : sentFrames t.obs = [f] := by
    rw [ht]
    rfl
  exact {
    cfg := by simpa [ht] using hprog.cfg
    bound := hlt
    count := fun _ => by
      rw [initSent_busy (by simpa [ht] using hp) (by simp [ht]), ← hk, ht]
      rfl
    sent := by
      rw [hdeq, List.take_add_one, hnext, sentFrames_append, hsent, hnew]
      simp [messageFrames]
    vol := by
      rw [hdeq, ht]
      exact hvol
    started := fun h => absurd hdeq h }

/-- A message is dequeued in phase RUN only, when the three frames are behind it. -/
theorem progress_message {w : MsgWord} {ws : List MsgWord} (hp : s.phase = .run)
    (ht : t = startSend (messageFrame s.vol w)
      { beginStep s with q := ws, obs := [.dequeued w], vol := volAfter s.vol w }) :
    Progress c k t (es ++ t.obs) := by
  have hk : 3 = k := (initSent_run hp).symm.trans (hprog.count (by simp [hp]))
  have hdeq : dequeuedWords t.obs = [w] := by simp [ht, dequeuedWords]
  have hsent : sentFrames t.obs = [messageFrame s.vol w] := by simp [ht, sentFrames]
  exact {
    cfg := by simpa [ht] using hprog.cfg
    bound := hprog.bound
    count := fun _ => (initSent_run (by simpa [ht] using hp)).trans hk
    sent := by
      rw [sentFrames_append, dequeuedWords_append, hdeq, hsent, hprog.sent, messageFrames_append, ← hprog.vol]
      simp [messageFrames]
    vol := by simp [ht, hprog.vol, dequeuedWords]
    started := fun _ => hk.symm }

/-- Each step without a reset makes progress. -/
theorem progress_step (hstep : step s = .next t) (hreset : noReset t.obs = true) :
    ∃ k', Progress c k' t (es ++ t.obs) := by
  obtain ⟨-, hdid⟩ := step_next hstep
  cases hdid with
  | initSend f hp hs hf h => exact ⟨k + 1, progress_initSend hprog hp hs hf h⟩
  | message w ws hp _ _ _ h => exact ⟨k, progress_message hprog hp h⟩
  | reset _ h => simp [h, noReset] at hreset
  | sinkOk d _ _ h =>
    refine ⟨k, progress_silent hprog hstep hreset (by simp [h]) (by simp [h]) ?_ ?_⟩ <;>
      cases d <;> simp [h, sinkOk_obs, sentFrames, dequeuedWords]
  | nothing h | sinkErr _ _ _ h | counted _ _ _ _ h | ticked _ h | initPaced _ _ _ _ _ h | lastInitPaced _ _ _ _ h
  | runPaced _ _ _ h | dropped _ _ _ _ h | enqueued _ _ _ _ _ h | suspended _ _ _ _ _ h | catalog _ _ _ _ _ h =>
    exact ⟨k, progress_silent hprog hstep hreset (by simp [h]) (by simp [h]) (by simp [h, sentFrames])
      (by simp [h, dequeuedWords])⟩

end

theorem progress_reset (c : Config) (sched : List Action) :
    Progress c 0 { State.resetFor c with sched := sched } [] where
  cfg := rfl
  bound := Nat.zero_le 3
  count := fun _ => rfl
  sent := rfl
  vol := rfl
  started := fun h => absurd rfl h

/-- Settles O54: `Progress` holds at reset and every step carries it on. -/
theorem initializationFramesComeFirst : Obligations.InitializationFramesComeFirst := by
  intro n c sched t es hrun hreset
  obtain ⟨k, hprog⟩ := runShows_carries_noReset (P := fun u fs => ∃ k, Progress c k u fs)
    (fun hstep hobs ⟨_, hprog⟩ => progress_step hprog hstep hobs) hrun hreset ⟨0, progress_reset c sched⟩
  exact ⟨k, hprog.bound, hprog.sent, hprog.started⟩

end Sys2Proof.Proofs.Boot
end

section
/-! PROOFS, 30_encoding.md. The operands on the ports, the decoder and the encoder of R58 to R61 as two sides of one
relation, and the two spellings of a frame (R56). -/

namespace Sys2Proof.Proofs.Encoding

open Sys2Proof.Machine Sys2Proof.Proofs.StepRules Sys2Proof.Proofs.Queue

/-! ### Bytes and operands in numbers (R47, R61) -/

theorem loByte_toNat (v : Word) : (loByte v).toNat = v.toNat % 256 := by
  simp [loByte]

theorem hiByte_toNat (v : Word) : (hiByte v).toNat = v.toNat / 256 := by
  have := v.isLt
  simp only [hiByte, BitVec.extractLsb'_toNat, Nat.shiftRight_eq_div_pow]
  omega

theorem joinBytes_toNat (hi lo : Byte) : (joinBytes hi lo).toNat = hi.toNat * 256 + lo.toNat := by
  simp only [joinBytes, BitVec.toNat_append]
  rw [← Nat.shiftLeft_add_eq_or_of_lt lo.isLt, Nat.shiftLeft_eq]

theorem fbByte_toNat (fb : Bool) : (fbByte fb).toNat = fb.toNat := by
  cases fb <;> rfl

theorem flagBit_toNat (b : Word) : (b.getLsbD 8).toNat = b.toNat / 256 % 2 :=
  Nat.toNat_testBit b.toNat 8

theorem loByte_rawOnPort (op : Byte) (fb : Bool) : loByte (rawOnPort op fb) = op :=
  loByte_joinBytes (fbByte fb) op

theorem flagBit_rawOnPort (op : Byte) (fb : Bool) : (rawOnPort op fb).getLsbD 8 = fb := by
  simp only [rawOnPort, joinBytes, BitVec.getLsbD_append]
  cases fb <;> rfl

/-- A mask of the `k` lowest bits. -/
theorem and_lowBits_toNat {n k : Nat} (v : BitVec n) (hk : k ≤ n) :
    (v &&& BitVec.ofNat n (2 ^ k - 1)).toNat = v.toNat % 2 ^ k := by
  have hpos : 0 < 2 ^ k := Nat.two_pow_pos k
  have hle : 2 ^ k ≤ 2 ^ n := Nat.pow_le_pow_right (by decide) hk
  rw [BitVec.toNat_and, BitVec.toNat_ofNat, Nat.mod_eq_of_lt (by omega), Nat.and_two_pow_sub_one_eq_mod]

theorem byteOnPort_loByte (v : Word) : byteOnPort (loByte v) = v &&& 0x00FF := by
  apply BitVec.eq_of_toNat_eq
  have hmask : (v &&& 0x00FF).toNat = v.toNat % 256 := and_lowBits_toNat v (k := 8) (by decide)
  rw [hmask, byteOnPort, BitVec.toNat_setWidth, loByte_toNat]
  omega

theorem rawOnPort_split (b : Word) : rawOnPort (loByte b) (b.getLsbD 8) = b &&& 0x01FF := by
  apply BitVec.eq_of_toNat_eq
  have hmask : (b &&& 0x01FF).toNat = b.toNat % 512 := and_lowBits_toNat b (k := 9) (by decide)
  rw [hmask, rawOnPort, joinBytes_toNat, fbByte_toNat, flagBit_toNat, loByte_toNat]
  omega

/-! ### Which encodings decode -/

theorem eq_ofNat_of_toNat {n k : Nat} {v : BitVec n} (h : v.toNat = k) : v = BitVec.ofNat n k := by
  simp [← h]

/-- R60: the selectors of the table. -/
theorem decode_request_of_selector {sel : BitVec 5} (a b : Word) (hsel : sel.toNat ≤ 0x1C) :
    ∃ i, decode (.request sel a b) = .instr i := by
  interval_cases hk : sel.toNat <;> simp [decode, decodeRequest, hk]

/-- R116: the selectors without a row. -/
theorem decode_request_of_reserved {sel : BitVec 5} (a b : Word) (hsel : 0x1C < sel.toNat) :
    decode (.request sel a b) = .reservedSelector := by
  have hlt : sel.toNat < 32 := sel.isLt
  interval_cases hk : sel.toNat <;> simp [decode, decodeRequest, hk]

/-! ### Round trips -/

/-- Settles O2: instruction by instruction, the operands are read back from where the encoder puts them. -/
theorem decodeOfEncodeIsIdentity : Obligations.DecodeOfEncodeIsIdentity := by
  intro i
  cases i with
  | raw op fb msb lsb =>
    calc decode (encode (.raw op fb msb lsb))
        = .instr (.raw (loByte (rawOnPort op fb)) ((rawOnPort op fb).getLsbD 8) (hiByte (joinBytes msb lsb))
            (loByte (joinBytes msb lsb))) := rfl
      _ = .instr (.raw op fb msb lsb) := by
        rw [loByte_rawOnPort, flagBit_rawOnPort, hiByte_joinBytes, loByte_joinBytes]
  | setVolume | selectSource | volumeAdjust | playFolder | playFolderLarge =>
    simp [encode, decode, decodeRequest, loByte_byteOnPort]
  | msgTrack id => simp [encode, decode, decodeMessage, msgTag_messageWord, msgId_messageWord]
  | _ => rfl

theorem encode_of_decodeRequest {sel : BitVec 5} {a b : Word} {i : Instr} (h : decodeRequest sel a b = .instr i) :
    encode i = (Encoding.request sel a b).canonical := by
  have hall (v : Word) : v &&& 0xFFFF#16 = v := BitVec.and_allOnes
  unfold decodeRequest at h
  split at h
  case h_30 => cases h
  all_goals
    rename_i hk
    cases eq_ofNat_of_toNat hk
    cases h
    simp only [encode, Encoding.canonical, operandMasks, BitVec.toNat_ofNat, Nat.reducePow, Nat.reduceMod,
      BitVec.ofNat_eq_ofNat, byteOnPort_loByte, rawOnPort_split, joinBytes_split, hall, BitVec.and_zero]

theorem encode_of_decodeMessage {w : MsgWord} {i : Instr} (h : decodeMessage w = .instr i) :
    encode i = (Encoding.message w).canonical := by
  have hw := messageWord_split w
  unfold decodeMessage at h
  split at h
  case h_7 => cases h
  all_goals
    rename_i hk
    have htag := eq_ofNat_of_toNat hk
    rw [htag] at hw
    cases h
    simp [encode, Encoding.canonical, htag, hw]

theorem encode_of_decodeInitStep {k : BitVec 2} {i : Instr} (h : decodeInitStep k = .instr i) :
    encode i = (Encoding.initStep k).canonical := by
  unfold decodeInitStep at h
  split at h
  case h_4 => cases h
  all_goals
    rename_i hk
    cases eq_ofNat_of_toNat hk
    cases h
    rfl

/-- Settles O3: one lemma for each of the three encodings. -/
theorem encodeOfDecodeIsCanonical : Obligations.EncodeOfDecodeIsCanonical := by
  intro e i h
  cases e with
  | request sel a b => exact encode_of_decodeRequest h
  | message w => exact encode_of_decodeMessage h
  | initStep k => exact encode_of_decodeInitStep h

/-- The identifier's bits do not reach the tag. -/
theorem canonical_message (w : MsgWord) :
    ∃ v, (Encoding.message w).canonical = .message v ∧ msgTag v = msgTag w := by
  simp only [Encoding.canonical]
  split
  · exact ⟨w, rfl, rfl⟩
  · exact ⟨_, rfl, msgTag_messageWord _ _⟩

/-- Settles O4: an encoding that decodes is, without its ignored bits, the encoder's own; one that is rejected is
rejected for its selector, tag or number, which `canonical` keeps. -/
theorem ignoredBitsDoNotMatter : Obligations.IgnoredBitsDoNotMatter := by
  intro e
  by_cases hinstr : ∃ i, decode e = .instr i
  · obtain ⟨i, hi⟩ := hinstr
    rw [← encodeOfDecodeIsCanonical e i hi, hi]
    exact decodeOfEncodeIsIdentity i
  · cases e with
    | request sel a b =>
      have hsel : 0x1C < sel.toNat := by
        by_contra hle
        exact hinstr (decode_request_of_selector a b (by omega))
      exact (decode_request_of_reserved _ _ hsel).trans (decode_request_of_reserved _ _ hsel).symm
    | message w =>
      have htag : 5 < (msgTag w).toNat := by
        by_contra hle
        exact hinstr (decode_message_of_tag (by omega))
      obtain ⟨v, hv, hsame⟩ := canonical_message w
      rw [hv, decode_message_of_badTag (hsame ▸ htag), decode_message_of_badTag htag]
    | initStep k => rfl

/-- Settles O1: the decoder evaluated on the nine encodings. -/
theorem specWordsDecode : Obligations.SpecWordsDecode := by
  unfold Obligations.SpecWordsDecode
  decide

/-! ### The frame as an 80-bit vector (R56) -/

theorem extractLsb'_append_byte {n : Nat} (x : BitVec n) (y : Byte) (k : Nat) :
    (x ++ y).extractLsb' (k + 8) 8 = x.extractLsb' k 8 :=
  BitVec.extractLsb'_append_eq_of_le (Nat.le_add_left 8 k)

theorem extractLsb'_append_nextByte {n : Nat} (v : BitVec n) (k m : Nat) :
    v.extractLsb' (k + 8) m ++ v.extractLsb' k 8 = v.extractLsb' k (m + 8) :=
  BitVec.extractLsb'_append_extractLsb'_eq_extractLsb' rfl

theorem frameOfBits_frameToBits (f : Frame) : frameOfBits (frameToBits f) = f := by
  simp only [frameOfBits, frameToBits, extractLsb'_append_byte, BitVec.extractLsb'_append_eq_right,
    BitVec.extractLsb'_eq_self]

theorem frameToBits_frameOfBits (v : BitVec 80) : frameToBits (frameOfBits v) = v := by
  simp only [frameToBits, frameOfBits, extractLsb'_append_nextByte]
  exact BitVec.extractLsb'_eq_self

/-- Settles O5: the byte places are the fields of the first round trip. -/
theorem frameVectorRoundTrip : Obligations.FrameVectorRoundTrip := by
  refine ⟨frameOfBits_frameToBits, frameToBits_frameOfBits, fun f => ?_⟩
  have h := frameOfBits_frameToBits f
  exact ⟨congrArg Frame.start h, congrArg Frame.version h, congrArg Frame.len h, congrArg Frame.opcode h,
    congrArg Frame.fb h, congrArg Frame.msb h, congrArg Frame.lsb h, congrArg Frame.ckMsb h, congrArg Frame.ckLsb h,
    congrArg Frame.stop h⟩

end Sys2Proof.Proofs.Encoding
end

section
/-! PROOFS, 30_encoding.md. From the encoding an agent presents to the instruction its step runs (R60, R123, R133), and
the two encodings that fault instead (R65, R133). -/

namespace Sys2Proof.Proofs.Fetch

open Sys2Proof.Machine Sys2Proof.Proofs.StepRules Sys2Proof.Proofs.Queue Sys2Proof.Proofs.Encoding

/-! ### The instruction a step runs -/

section
variable {s : State} {sel : BitVec 5} {a b : Word} {rest : List Action} (hw : s.cfg.wellFormed = true)
  (hsched : s.sched = .catalog sel a b :: rest)
include hw hsched

theorem step_of_request {i : Instr} (hd : decode (.request sel a b) = .instr i) :
    step s = exec i { s with sched := rest, obs := [] } :=
  step_of_run hw (by simp [turn, nextAction_cons hsched, catalogTurn, hd, beginStep, hsched])

theorem step_of_reservedSelector (hsel : 0x1C < sel.toNat) :
    step s = .next { s with sched := rest, obs := [.catalog (.reject .badOp)] } := by
  have hturn : turn s = .done (showCatalog (.reject .badOp) (beginStep s)) := by
    simp [turn, nextAction_cons hsched, catalogTurn, decode_request_of_reserved a b hsel]
  rw [step_of_done hw hturn, showCatalog_of_wellFormed (s := beginStep s) hw]
  simp [observe, beginStep, hsched]

end

theorem dispatcherTurn_initStep {s : State} {i : Instr} (hp : s.phase = .init) (hs : s.st = .idle)
    (hd : decode (.initStep s.initIdx) = .instr i) : dispatcherTurn s = .run i s := by
  simp [dispatcherTurn, initTurn, hp, hs, hd]

/-- Settles O24: the turn of each of the three agents hands over what it decodes. -/
theorem stepRunsTheDecodedInstruction : Obligations.StepRunsTheDecodedInstruction := by
  refine ⟨fun s sel a b rest i hw hsched hd => step_of_request hw hsched hd,
    fun s w ws i hw ha hp hs hq hd => ?_, fun s i hw ha hp hs hd => ?_⟩
  · exact step_of_dispatcher_run hw ha (dispatcherTurn_message (s := beginStep s) hp hs hq hd)
  · exact step_of_dispatcher_run hw ha (dispatcherTurn_initStep (s := beginStep s) hp hs hd)

/-! ### Faults -/

theorem guarded_fault {s : State} {r : Result} {k : Fault} (h : guarded s r = .fault k) : r = .fault k := by
  unfold guarded at h
  split at h
  · exact h
  · cases h

theorem sendCatalog_ne_fault (r : CatResult) (s : State) (k : Fault) : sendCatalog r s ≠ .fault k := by
  cases r <;> simp [sendCatalog]

theorem showCatalog_ne_fault (r : CatResult) (s : State) (k : Fault) : showCatalog r s ≠ .fault k := fun h =>
  nomatch guarded_fault h

/-- The guards of the messages and of the initialization steps add no fault. -/
theorem guarded_ite_ne_fault {s : State} {r : Result} {k : Fault} {p : Prop} [Decidable p] (hr : r ≠ .fault k) :
    guarded s (if p then r else .next (noStep s)) ≠ .fault k := by
  intro h
  have hinner := guarded_fault h
  split at hinner
  · exact hr hinner
  · cases hinner

/-- No instruction faults: the faults are the Dispatcher's, before it has an instruction or without one. -/
theorem exec_ne_fault (i : Instr) (s : State) (k : Fault) : exec i s ≠ .fault k := by
  cases i with
  | msgTrack | msgPause | msgResume | msgStop | msgVolup | msgVoldown | init0 | init1 | init2 =>
    exact guarded_ite_ne_fault (sendCatalog_ne_fault _ _ k)
  | _ => exact showCatalog_ne_fault _ _ k

theorem endPace_fault {s : State} {k : Fault} (h : endPace s = .fault k) :
    k = .illegalInitIdx ∧ s.phase = .init ∧ s.initIdx = 3 := by
  cases hp : s.phase with
  | run | halt => simp [endPace, hp] at h
  | init =>
    have hcases : s.initIdx.toNat < 2 ∨ s.initIdx = 2 ∨ s.initIdx = 3 := by bv_omega
    rcases hcases with hk | hk | hk
    · cases (endPace_init hp hk).symm.trans h
    · cases (endPace_lastInit hp hk).symm.trans h
    · simp only [endPace, hp, hk] at h
      cases h
      exact ⟨rfl, rfl, hk⟩

theorem messageTurn_fault {s : State} {k : Fault} (h : messageTurn s = .done (.fault k)) :
    k = .malformedInQueue ∧ ∃ w ws, s.q = w :: ws ∧ 6 ≤ (msgTag w).toNat := by
  cases hq : s.q with
  | nil => simp [messageTurn, qDeq, hq] at h
  | cons w ws =>
    by_cases htag : (msgTag w).toNat ≤ 5
    · obtain ⟨i, hd⟩ := decode_message_of_tag htag
      simp [messageTurn, qDeq, hq, hd] at h
    · have hd := decode_message_of_badTag (w := w) (by omega)
      simp only [messageTurn, qDeq, hq, hd] at h
      cases h
      exact ⟨rfl, w, ws, rfl, by omega⟩

/-- A turn that faults without an instruction is the Dispatcher's, for one of the two reasons. -/
theorem turn_fault {s : State} {k : Fault} (h : turn s = .done (.fault k)) :
    (k = .malformedInQueue ∧ s.phase = .run ∧ s.st = .idle ∧ ∃ w ws, s.q = w :: ws ∧ 6 ≤ (msgTag w).toNat) ∨
      (k = .illegalInitIdx ∧ s.phase = .init ∧ s.initIdx = 3) := by
  unfold turn at h
  cases ha : nextAction s with
  | sink | tick | offer | reset => simp [ha] at h
  | catalog sel a b =>
    simp only [ha, catalogTurn] at h
    split at h
    · cases h
    · injection h with h
      exact absurd h (showCatalog_ne_fault _ _ k)
  | dispatcher =>
    simp only [ha] at h
    rcases dispatcherTurn_cases (beginStep s) with ⟨-, hd⟩ | ⟨hp, hs, hd⟩ | ⟨hp, hs, hd⟩ | ⟨-, -, hd⟩ | ⟨-, -, hd⟩
      <;> rw [hd] at h
    · cases h
    · rcases initTurn_cases (beginStep s) with ⟨-, hi⟩ | ⟨-, hi⟩ | ⟨-, hi⟩ | ⟨hk, hi⟩ <;> rw [hi] at h <;> cases h
      exact .inr ⟨rfl, hp, hk⟩
    · obtain ⟨rfl, hhead⟩ := messageTurn_fault h
      exact .inl ⟨rfl, hp, hs, hhead⟩
    · injection h with h
      split at h
      · exact .inr (endPace_fault (s := beginStep s) h)
      · cases h
    · cases h

/-- Settles O43: an instruction does not fault, so the fault is the turn's. -/
theorem faultsOnlyWhereTheSpecSays : Obligations.FaultsOnlyWhereTheSpecSays := by
  intro s k hstep
  have h := guarded_fault hstep
  cases hturn : turn s with
  | run i t =>
    rw [hturn] at h
    exact absurd h (exec_ne_fault i t k)
  | done r =>
    rw [hturn] at h
    subst h
    exact turn_fault hturn

end Sys2Proof.Proofs.Fetch
end

section
/-! PROOFS, 30_encoding.md. The Frame Codec read backwards: a well-formed frame as `encode` of its free bytes (R57),
the checksum and the packed folder as numbers (R77, R87). -/

namespace Sys2Proof.Proofs.Codec

open Sys2Proof.Machine Sys2Proof.Proofs.Encoding

/-! ### Well-formed frames -/

/-- R57: the constant bytes, the flag and the checksum leave nothing free but bytes 3 to 6. -/
theorem eq_encodeFrame_of_wellFormed {f : Frame} (h : frameWellFormed f = true) :
    f = encodeFrame f.opcode (decide (f.fb = 1)) ⟨f.msb, f.lsb⟩ := by
  obtain ⟨start, version, len, opcode, fb, msb, lsb, ckMsb, ckLsb, stop⟩ := f
  simp only [frameWellFormed, frameConstants, frameCksum, Bool.and_eq_true, decide_eq_true_eq] at h
  obtain ⟨⟨⟨⟨⟨rfl, rfl⟩, rfl⟩, rfl⟩, hle⟩, hck⟩ := h
  have hfb : fbByte (decide (fb = 1)) = fb := by
    have hcases : fb = 0 ∨ fb = 1 := by bv_omega
    rcases hcases with rfl | rfl <;> rfl
  have hcksum : cksum 0xFF 0x06 opcode fb msb lsb = joinBytes ckMsb ckLsb := (of_decide_eq_true hck).symm
  simp only [encodeFrame, hfb, hcksum, hiByte_joinBytes, loByte_joinBytes]

/-- Settles O11: both frames are `encode` of their free bytes. -/
theorem freeBytesDetermineTheFrame : Obligations.FreeBytesDetermineTheFrame := by
  intro f g hf hg hop hfb hmsb hlsb
  have hf' := eq_encodeFrame_of_wellFormed hf
  have hg' := eq_encodeFrame_of_wellFormed hg
  rw [← hop, ← hfb, ← hmsb, ← hlsb] at hg'
  exact ⟨hf'.trans hg'.symm, hf'⟩

/-! ### The checksum and the packed parameter -/

/-- R76: a subtraction that does not wrap. -/
theorem cksumStep_toNat {acc : Word} {b : Byte} (h : b.toNat ≤ acc.toNat) :
    (cksumStep acc b).toNat = acc.toNat - b.toNat := by
  have hb : (b.setWidth 16).toNat = b.toNat := BitVec.toNat_setWidth_of_le (by decide)
  rw [cksumStep, BitVec.toNat_sub_of_le (by rwa [BitVec.le_def, hb]), hb]

/-- R77: the checksum of an encoded frame in ordinary subtraction. After the version and length bytes it stands at
`0xFEFB`, and the other four bytes do not bring it below zero. -/
theorem cksum_toNat (op : Byte) (fb : Bool) (msb lsb : Byte) :
    (cksum 0xFF 0x06 op (fbByte fb) msb lsb).toNat = 0xFEFB - op.toNat - fb.toNat - msb.toNat - lsb.toNat := by
  have hop := op.isLt
  have hfb := fb.toNat_le
  have hmsb := msb.isLt
  have hlsb := lsb.isLt
  have hstart : (0xFEFB : Word).toNat = 0xFEFB := rfl
  have hop' := cksumStep_toNat (acc := 0xFEFB) (b := op) (by omega)
  have hfb' := cksumStep_toNat (acc := cksumStep 0xFEFB op) (b := fbByte fb) (by rw [fbByte_toNat]; omega)
  rw [hop', fbByte_toNat, hstart] at hfb'
  calc (cksum 0xFF 0x06 op (fbByte fb) msb lsb).toNat
      = (cksumStep (cksumStep (cksumStep (cksumStep 0xFEFB op) (fbByte fb)) msb) lsb).toNat := rfl
    _ = (cksumStep (cksumStep (cksumStep 0xFEFB op) (fbByte fb)) msb).toNat - lsb.toNat := by
      refine cksumStep_toNat ?_
      rw [cksumStep_toNat (by omega)]
      omega
    _ = 0xFEFB - op.toNat - fb.toNat - msb.toNat - lsb.toNat := by rw [cksumStep_toNat (by omega), hfb']

/-- R87: the low four bits of the folder over the low twelve bits of the track. -/
theorem packFolder_toNat (folder : Byte) (track : Word) :
    (packFolder folder track).toNat = folder.toNat % 16 * 4096 + track.toNat % 4096 := by
  have hlow : (track &&& 0x0FFF).toNat = track.toNat % 4096 := and_lowBits_toNat track (k := 12) (by decide)
  have hhigh : (folder.setWidth 16 <<< 12).toNat = (folder.toNat % 16) <<< 12 := by
    have := folder.isLt
    rw [BitVec.toNat_shiftLeft, BitVec.toNat_setWidth, Nat.shiftLeft_eq, Nat.shiftLeft_eq]
    omega
  have hlt : track.toNat % 4096 < 2 ^ 12 := Nat.mod_lt _ (by decide)
  rw [packFolder, BitVec.toNat_or, hlow, hhigh, ← Nat.shiftLeft_add_eq_or_of_lt hlt, Nat.shiftLeft_eq]

theorem paramP16_joinBytes (msb lsb : Byte) : paramP16 (joinBytes msb lsb) = ⟨msb, lsb⟩ := by
  rw [paramP16, hiByte_joinBytes, loByte_joinBytes]

/-- R87, read backwards: the upper half of the first byte is the folder, the other twelve bits are the track. -/
theorem paramPack_split (msb lsb : Byte) : paramPack (msb >>> 4) (joinBytes (msb &&& 0x0F) lsb) = ⟨msb, lsb⟩ := by
  have hpack : packFolder (msb >>> 4) (joinBytes (msb &&& 0x0F) lsb) = joinBytes msb lsb := by
    apply BitVec.eq_of_toNat_eq
    have := msb.isLt
    have := lsb.isLt
    have hmask : (msb &&& 0x0F).toNat = msb.toNat % 16 := and_lowBits_toNat msb (k := 4) (by decide)
    rw [packFolder_toNat, joinBytes_toNat, joinBytes_toNat, hmask, BitVec.toNat_ushiftRight,
      Nat.shiftRight_eq_div_pow]
    omega
  rw [paramPack, hpack, paramP16_joinBytes]

end Sys2Proof.Proofs.Codec
end

section
/-! PROOFS, 30_encoding.md. The catalog as a pure function of operands and configuration (R60), what it rejects
(R91), and the well-formed frames as its frames (R57, R69). -/

namespace Sys2Proof.Proofs.Catalog

open Sys2Proof.Machine Sys2Proof.Safety Sys2Proof.Proofs.Scope Sys2Proof.Proofs.StepRules Sys2Proof.Proofs.Invariant
open Sys2Proof.Proofs.Encoding Sys2Proof.Proofs.Codec

/-! ### The catalog as a pure function -/

/-- The catalog operations and their pure functions (R60); nothing for the messages and the initialization steps. -/
def catalogOf : Instr → Option (Config → CatResult)
  | .raw op fb msb lsb => some fun _ => catRaw op fb msb lsb
  | .next => some fun _ => catNext
  | .prev => some fun _ => catPrev
  | .playTrack n => some fun _ => catPlayTrack n
  | .volInc => some fun _ => catVolInc
  | .volDec => some fun _ => catVolDec
  | .setVolume v => some fun _ => catSetVolume v
  | .setEq p => some fun _ => catSetEq p
  | .loopMode p => some fun _ => catLoopMode p
  | .selectSource src => some fun _ => catSelectSource src
  | .standby => some fun _ => catStandby
  | .normal => some fun _ => catNormal
  | .reset => some fun _ => catReset
  | .resume => some fun _ => catResume
  | .pause => some fun _ => catPause
  | .playFolder folder track => some fun _ => catPlayFolder folder track
  | .volumeAdjust g => some fun c => catVolumeAdjust c g
  | .repeatPlay p => some fun _ => catRepeatPlay p
  | .playMp3Folder p => some fun _ => catPlayMp3Folder p
  | .insertAdvert p => some fun _ => catInsertAdvert p
  | .playFolderLarge folder track => some fun _ => catPlayFolderLarge folder track
  | .stopAdvert => some fun _ => catStopAdvert
  | .stop => some fun _ => catStop
  | .repeatFolder p => some fun _ => catRepeatFolder p
  | .randomAll => some fun _ => catRandomAll
  | .repeatCurrent p => some fun _ => catRepeatCurrent p
  | .setDac p => some fun _ => catSetDac p
  | .sleep => some catSleep
  | .wake => some catWake
  | .msgTrack _ | .msgPause | .msgResume | .msgStop | .msgVolup | .msgVoldown | .init0 | .init1 | .init2 => none

theorem catalogOf_isSome (i : Instr) : (catalogOf i).isSome = isCatalogOp i := by
  cases i <;> rfl

theorem exec_of_catalogOf {i : Instr} {r : Config → CatResult} (hr : catalogOf i = some r) (s : State) :
    exec i s = showCatalog (r s.cfg) s := by
  cases i with
  | msgTrack | msgPause | msgResume | msgStop | msgVolup | msgVoldown | init0 | init1 | init2 => cases hr
  | _ => cases hr; rfl

/-- What decodes from a catalog request is a catalog operation. -/
theorem catalogOf_of_request {sel : BitVec 5} {a b : Word} {i : Instr} (hd : decode (.request sel a b) = .instr i) :
    ∃ r, catalogOf i = some r := by
  rw [← Option.isSome_iff_exists, catalogOf_isSome, isCatalogOp, encodeOfDecodeIsCanonical _ i hd]
  rfl

theorem catalogOf_of_isCatalogOp {i : Instr} (hi : isCatalogOp i = true) : ∃ r, catalogOf i = some r := by
  rwa [← Option.isSome_iff_exists, catalogOf_isSome]

/-- Settles O21: the operation's pure function is its result in every state. -/
theorem catalogOperationsArePure : Obligations.CatalogOperationsArePure := by
  intro i hi
  obtain ⟨r, hr⟩ := catalogOf_of_isCatalogOp hi
  exact ⟨r, fun s hw => (exec_of_catalogOf hr s).trans (showCatalog_of_wellFormed hw _)⟩

/-! ### Rejection -/

/-- R85, R88, R91: an operation encodes a frame where its operand passes, and rejects it otherwise. -/
theorem catalogOf_checks {i : Instr} {r : Config → CatResult} (hr : catalogOf i = some r) {c : Config}
    (hw : c.wellFormed = true) :
    ∃ op fb p k, r c = if i.wellFormed c then .ok (encodeFrame op fb p) else .reject k := by
  obtain ⟨-, -, -, hsleep, hcard, -⟩ := (config_wellFormed_iff c).1 hw
  cases i with
  | msgTrack | msgPause | msgResume | msgStop | msgVolup | msgVoldown | init0 | init1 | init2 => cases hr
  | selectSource | volumeAdjust => cases hr; exact ⟨_, _, _, _, rfl⟩
  | sleep => cases hr; exact ⟨_, _, _, .badOp, if_pos ((sourceInRange_iff _).2 hsleep)⟩
  | wake => cases hr; exact ⟨_, _, _, .badOp, if_pos ((sourceInRange_iff _).2 hcard)⟩
  | _ => cases hr; exact ⟨_, _, _, .badOp, rfl⟩

/-- Settles O22: what the port shows is the checked frame of the operation. -/
theorem catalogRejectsExactlyInvalidOperands : Obligations.CatalogRejectsExactlyInvalidOperands := by
  intro i s r hi hw hexec
  obtain ⟨g, hg⟩ := catalogOf_of_isCatalogOp hi
  have hr : r = g s.cfg := by
    rw [exec_of_catalogOf hg, showCatalog_of_wellFormed hw] at hexec
    simpa [observe] using hexec.symm
  obtain ⟨op, fb, p, k, hcheck⟩ := catalogOf_checks hg hw
  rw [hr, hcheck]
  cases i.wellFormed s.cfg with
  | false => simp
  | true => simp [frameWellFormed_encodeFrame]

/-! ### Well-formed frames are catalog frames (R57, R69) -/

/-- The instruction is a catalog operation that yields the frame `f` if its operand passes. -/
def Yields (c : Config) (f : Frame) (i : Instr) : Prop :=
  ∃ r, catalogOf i = some r ∧ (i.wellFormed c = true → r c = .ok f)

theorem yields_raw (c : Config) (op : Byte) (fb : Bool) (msb lsb : Byte) :
    Yields c (encodeFrame op fb ⟨msb, lsb⟩) (.raw op fb msb lsb) :=
  ⟨_, rfl, fun _ => rfl⟩

/-- A row that is matched under a condition, RAW otherwise. -/
theorem yields_ite {c : Config} {op : Byte} {fb : Bool} {msb lsb : Byte} {i : Instr} {p : Prop} [Decidable p]
    (h : p → Yields c (encodeFrame op fb ⟨msb, lsb⟩) i) :
    Yields c (encodeFrame op fb ⟨msb, lsb⟩) (if p then i else .raw op fb msb lsb) := by
  split
  · exact h ‹_›
  · exact yields_raw c op fb msb lsb

/-- Each row of the table by what it asks of the flag and the parameter bytes. -/
theorem yields_tableRow (c : Config) (op : Byte) (fb : Bool) (msb lsb : Byte) :
    Yields c (encodeFrame op fb ⟨msb, lsb⟩) (tableRow c op fb msb lsb) := by
  simp only [tableRow]
  split
  case h_27 => exact yields_raw c op fb msb lsb
  all_goals
    rename_i hk
    cases eq_ofNat_of_toNat hk
    refine yields_ite fun hmatch => ?_
  -- Form ZERO, with the flag of the row.
  case h_1 | h_2 | h_4 | h_5 | h_10 | h_11 | h_12 | h_13 | h_14 | h_21 | h_22 | h_24 =>
    obtain ⟨rfl, rfl, rfl⟩ := hmatch
    exact ⟨_, rfl, fun _ => rfl⟩
  -- Form P16.
  case h_3 | h_7 | h_8 | h_17 | h_18 | h_19 | h_23 | h_25 | h_26 =>
    subst hmatch
    rw [← paramP16_joinBytes]
    exact ⟨_, rfl, fun _ => rfl⟩
  -- SET_VOLUME, form B8.
  case h_6 =>
    obtain ⟨rfl, rfl⟩ := hmatch
    exact ⟨_, rfl, fun _ => rfl⟩
  -- SELECT_SOURCE, whose validity is the check of R85.
  case h_9 =>
    obtain ⟨rfl, rfl⟩ := hmatch
    exact ⟨_, rfl, fun hsrc => if_pos hsrc⟩
  -- PLAY_FOLDER, form PAIR.
  case h_15 =>
    subst hmatch
    exact ⟨_, rfl, fun _ => rfl⟩
  -- VOLUME_ADJUST: the gain is read by subtracting the base.
  case h_16 =>
    obtain ⟨rfl, rfl⟩ := hmatch
    have hadj : paramAdj c (lsb - c.volAdjBase) = ⟨c.volAdjMsb, lsb⟩ := by simp [paramAdj]
    rw [← hadj]
    exact ⟨_, rfl, fun hgain => if_pos hgain⟩
  -- PLAY_FOLDER_LARGE, form PACK.
  case h_20 =>
    subst hmatch
    rw [← paramPack_split]
    exact ⟨_, rfl, fun _ => rfl⟩

/-- A well-formed frame is read as an operation with a valid operand that yields it. -/
theorem decodeFrame_yields (c : Config) {f : Frame} (hf : frameWellFormed f = true) :
    ∃ i, decodeFrame c f = some i ∧ i.wellFormed c = true ∧ Yields c f i := by
  have hrow := yields_tableRow c f.opcode (decide (f.fb = 1)) f.msb f.lsb
  have hraw := yields_raw c f.opcode (decide (f.fb = 1)) f.msb f.lsb
  rw [← eq_encodeFrame_of_wellFormed hf] at hrow hraw
  simp only [decodeFrame, hf, if_true]
  split
  · exact ⟨_, rfl, ‹_›, hrow⟩
  · exact ⟨_, rfl, rfl, hraw⟩

/-- Settles O6: the operation the frame is read as is evaluated at the catalog port. -/
theorem wellFormedFramesAreCatalogFrames : Obligations.WellFormedFramesAreCatalogFrames := by
  intro c f hc hf
  obtain ⟨i, hdecode, hvalid, r, hr, hyields⟩ := decodeFrame_yields c hf
  refine ⟨i, hdecode, by rw [← catalogOf_isSome, hr]; rfl, fun s hs => ?_⟩
  subst hs
  rw [exec_of_catalogOf hr, hyields hvalid]
  exact showCatalog_of_wellFormed hc _

end Sys2Proof.Proofs.Catalog
end

section
/-! PROOFS, 30_encoding.md. The catalog port against the selector table over numbers (R60 to R63, R77). -/

namespace Sys2Proof.Proofs.CatalogPort

open Sys2Proof.Machine Sys2Proof.Proofs.Scope Sys2Proof.Proofs.StepRules Sys2Proof.Proofs.Encoding
open Sys2Proof.Proofs.Codec Sys2Proof.Proofs.Fetch Sys2Proof.Proofs.Catalog

/-! ### What the port shows of an operation -/

/-- R63, R77: an encoded frame at the catalog port. -/
theorem portOf_encodeFrame (op : Byte) (fb : Bool) (p : Param) :
    portOf (.ok (encodeFrame op fb p)) = ⟨true, 0, closedFrame op.toNat fb.toNat p.msb.toNat p.lsb.toNat⟩ := by
  simp only [portOf, frameBytes, encodeFrame, closedFrame, List.map, hiByte_toNat, loByte_toNat, fbByte_toNat,
    cksum_toNat]
  rfl

/-- R62, form P16: the operand split big-endian. -/
theorem portOf_numeric (op : Byte) (a : Word) :
    portOf (.ok (encodeFrame op true (paramP16 a))) =
      ⟨true, 0, closedFrame op.toNat 1 (a.toNat / 256) (a.toNat % 256)⟩ := by
  rw [portOf_encodeFrame, paramP16, hiByte_toNat, loByte_toNat]
  rfl

/-- R61, R80: RAW's four operands as the two ports carry them. -/
theorem portOf_raw (a b : Word) :
    portOf (catRaw (loByte b) (b.getLsbD 8) (hiByte a) (loByte a)) =
      ⟨true, 0, closedFrame (b.toNat % 256) (b.toNat / 256 % 2) (a.toNat / 256) (a.toNat % 256)⟩ := by
  rw [catRaw, portOf_encodeFrame, paramRaw, flagBit_toNat, hiByte_toNat, loByte_toNat, loByte_toNat]

/-- What the table makes of the two parameter bytes of a row with flag 1, once the validation has given its code. -/
def checkedPort (code opcode msb lsb : Nat) : CatPort :=
  if code = 0 then ⟨true, 0, closedFrame opcode 1 msb lsb⟩ else rejectedPort code

/-- R85: rejected with code 1 outside 1 to 5. -/
theorem portOf_selectSource (src : Byte) (gain : Nat) :
    portOf (catSelectSource src) = checkedPort (checkCode .source src.toNat gain) 0x09 0 src.toNat := by
  by_cases h : 1 ≤ src.toNat ∧ src.toNat ≤ 5
  · have hs := (sourceInRange_iff src).2 h
    simpa [catSelectSource, hs, checkedPort, checkCode, h, paramB8] using portOf_encodeFrame 0x09 true (paramB8 src)
  · have hs := mt (sourceInRange_iff src).1 h
    simp only [catSelectSource, hs, checkedPort, checkCode, h]
    rfl

/-- R88: rejected with code 2 above 31; the sum of base and gain does not wrap (R6). -/
theorem portOf_volumeAdjust {c : Config} (hw : c.wellFormed = true) (g : Byte) :
    portOf (catVolumeAdjust c g) = checkedPort (checkCode .gain (c.volAdjBase.toNat + g.toNat) g.toNat) 0x10
      c.volAdjMsb.toNat (c.volAdjBase.toNat + g.toNat) := by
  obtain ⟨-, -, -, -, -, hbase⟩ := (config_wellFormed_iff c).1 hw
  by_cases h : g.toNat ≤ 31
  · have hsum : (c.volAdjBase + g).toNat = c.volAdjBase.toNat + g.toNat := by bv_omega
    have hport := portOf_encodeFrame 0x10 true (paramAdj c g)
    simp only [paramAdj, hsum] at hport
    simpa [catVolumeAdjust, gainInRange, checkedPort, checkCode, h, paramAdj] using hport
  · simp only [catVolumeAdjust, gainInRange, checkedPort, checkCode, h]
    rfl

/-- R87: the packed operand's two bytes. -/
theorem portOf_playFolderLarge (a b : Word) :
    portOf (catPlayFolderLarge (loByte a) b) =
      ⟨true, 0, closedFrame 0x14 1 (a.toNat % 16 * 16 + b.toNat / 256 % 16) (b.toNat % 256)⟩ := by
  have hpack : (packFolder (loByte a) b).toNat = a.toNat % 16 * 4096 + b.toNat % 4096 := by
    rw [packFolder_toNat, loByte_toNat]
    omega
  have hmsb : (a.toNat % 16 * 4096 + b.toNat % 4096) / 256 = a.toNat % 16 * 16 + b.toNat / 256 % 16 := by omega
  have hlsb : (a.toNat % 16 * 4096 + b.toNat % 4096) % 256 = b.toNat % 256 := by omega
  rw [catPlayFolderLarge, paramPack, portOf_numeric, hpack, hmsb, hlsb]
  rfl

/-! ### The table -/

/-- The rows of the table, by parameter form. -/
theorem portOf_of_request {sel : BitVec 5} {a b : Word} {i : Instr} {r : Config → CatResult} {c : Config}
    (hw : c.wellFormed = true) (hd : decode (.request sel a b) = .instr i) (hr : catalogOf i = some r) :
    portOf (r c) = catalogByTable c sel.toNat a.toNat b.toNat := by
  simp only [decode, decodeRequest] at hd
  split at hd
  case h_30 => cases hd
  all_goals
    rename_i hk
    rw [hk]
    cases hd
    cases hr
  -- RAW.
  case h_1 => exact portOf_raw a b
  -- Form ZERO.
  case h_2 | h_3 | h_5 | h_6 | h_11 | h_12 | h_13 | h_14 | h_15 | h_22 | h_23 | h_25 =>
    exact portOf_encodeFrame _ _ paramZero
  -- Form P16.
  case h_4 | h_8 | h_9 | h_18 | h_19 | h_20 | h_24 | h_26 | h_27 => exact portOf_numeric _ a
  -- SET_VOLUME.
  case h_7 =>
    refine (portOf_encodeFrame _ _ (paramB8 (loByte a))).trans ?_
    rw [paramB8, loByte_toNat]
    rfl
  -- SELECT_SOURCE.
  case h_10 =>
    refine (portOf_selectSource (loByte a) (a.toNat % 256)).trans ?_
    rw [loByte_toNat]
    rfl
  -- PLAY_FOLDER.
  case h_16 =>
    refine (portOf_encodeFrame _ _ (paramPair (loByte a) (loByte b))).trans ?_
    rw [paramPair, loByte_toNat, loByte_toNat]
    rfl
  -- VOLUME_ADJUST.
  case h_17 =>
    refine (portOf_volumeAdjust hw (loByte a)).trans ?_
    rw [loByte_toNat]
    rfl
  -- PLAY_FOLDER_LARGE.
  case h_21 => exact portOf_playFolderLarge a b
  -- SLEEP and WAKE.
  case h_28 => exact portOf_selectSource c.srcSleep _
  case h_29 => exact portOf_selectSource c.srcCard _

theorem catalogByTable_reserved (c : Config) (a b : Nat) {n : Nat} (hsel : 0x1C < n) :
    catalogByTable c n a b = rejectedPort 3 := by
  have hnone : catRows.find? (fun r => r.sel == n) = none := by
    simp only [List.find?_eq_none, beq_iff_eq]
    intro r hr heq
    have hle : ∀ r ∈ catRows, r.sel ≤ 0x1C := by decide
    exact absurd (hle r hr) (by omega)
  simp only [catalogByTable, hnone]

/-- Settles O20: the selectors of the table row by row, and the reserved ones without a row. -/
theorem catalogPortFollowsTheTable : Obligations.CatalogPortFollowsTheTable := by
  intro s sel a b rest hw hsched
  by_cases hsel : sel.toNat ≤ 0x1C
  · obtain ⟨i, hd⟩ := decode_request_of_selector a b hsel
    obtain ⟨r, hr⟩ := catalogOf_of_request hd
    refine ⟨r s.cfg, ?_, portOf_of_request hw hd hr⟩
    rw [step_of_request hw hsched hd, exec_of_catalogOf hr]
    exact showCatalog_of_wellFormed (s := { s with sched := rest, obs := [] }) hw _
  · refine ⟨_, step_of_reservedSelector hw hsched (by omega), ?_⟩
    rw [catalogByTable_reserved _ _ _ (by omega)]
    rfl

end Sys2Proof.Proofs.CatalogPort
end

section
/-! PROOFS, 30_encoding.md. The frames sent in phase RUN against the messages dequeued (R68, R122). -/

namespace Sys2Proof.Proofs.MessageFrames

open Sys2Proof.Machine Sys2Proof.Safety Sys2Proof.Proofs.Registers Sys2Proof.Proofs.Runs Sys2Proof.Proofs.Boot

/-- A step of phase RUN stays in it, and sends the frames of the messages it dequeues, which take VOL along. -/
theorem run_step {s t : State} (hp : s.phase = .run) (hstep : step s = .next t) (hreset : noReset t.obs = true) :
    t.phase = .run ∧ t.vol = (dequeuedWords t.obs).foldl volAfter s.vol ∧
      sentFrames t.obs = messageFrames s.vol (dequeuedWords t.obs) := by
  obtain ⟨-, hdid⟩ := step_next hstep
  cases hdid with
  | message w ws _ _ _ _ h => simp [h, hp, dequeuedWords, sentFrames, messageFrames]
  | sinkOk c _ _ h => cases c <;> simp [h, hp, sinkOk_obs, dequeuedWords, sentFrames, messageFrames]
  | sinkErr c _ _ h => simp [h, hp, takeTransportError_phase, dequeuedWords, sentFrames, messageFrames]
  | initSend _ hi _ _ _ | initPaced _ hi _ _ _ _ | lastInitPaced hi _ _ _ _ => cases hp.symm.trans hi
  | reset _ h => simp [h, noReset] at hreset
  | nothing h | counted _ _ _ _ h | ticked _ h | runPaced _ _ _ h | dropped _ _ _ _ h | enqueued _ _ _ _ _ h
  | suspended _ _ _ _ _ h | catalog _ _ _ _ _ h =>
    simp [h, hp, dequeuedWords, sentFrames, messageFrames]

/-- After the events `es` of phase RUN, taken up at volume `start`, the frames sent are those of the messages dequeued,
and VOL is where those messages took it. -/
structure FramesFollow (start : Byte) (s : State) (es : List Event) : Prop where
  phase : s.phase = .run
  vol   : s.vol = (dequeuedWords es).foldl volAfter start
  sent  : sentFrames es = messageFrames start (dequeuedWords es)

theorem framesFollow_step {start : Byte} {s t : State} {es : List Event} (hfollow : FramesFollow start s es)
    (hstep : step s = .next t) (hreset : noReset t.obs = true) : FramesFollow start t (es ++ t.obs) := by
  obtain ⟨hphase, hvol, hsent⟩ := run_step hfollow.phase hstep hreset
  exact {
    phase := hphase
    vol := by rw [hvol, hfollow.vol, dequeuedWords_append, List.foldl_append]
    sent := by
      rw [sentFrames_append, dequeuedWords_append, messageFrames_append, hfollow.sent, hsent, hfollow.vol] }

/-- Settles O53: `FramesFollow` holds of no events in phase RUN, and every step carries it on. -/
theorem oneFrameForEachMessage : Obligations.OneFrameForEachMessage := by
  intro n s t es hp hrun hreset
  have hstart : FramesFollow s.vol s [] := ⟨hp, rfl, rfl⟩
  have hend := runShows_carries_noReset (fun hstep hobs hfollow => framesFollow_step hfollow hstep hobs) hrun hreset
    hstart
  exact hend.sent

end Sys2Proof.Proofs.MessageFrames
end

section
/-! PROOFS, 40_frame_codec.md. The checksum as a number (R76, R77), the bytes of an encoded frame (R75, R78), and the
operations that hand their operands to the codec as they come (R80, R84, R86). -/

namespace Sys2Proof.Proofs.FrameCodec

open Sys2Proof.Machine Sys2Proof.Safety Sys2Proof.Proofs.StepRules Sys2Proof.Proofs.Invariant
open Sys2Proof.Proofs.Encoding Sys2Proof.Proofs.Codec Sys2Proof.Proofs.Catalog Sys2Proof.Proofs.CatalogPort

/-! ### The checksum (R76) -/

/-- One subtraction, wrapping or not; `cksumStep_toNat` is the case that does not wrap. -/
theorem cksumStep_toInt (acc : Word) (b : Byte) :
    ((cksumStep acc b).toNat : Int) = ((acc.toNat : Int) - b.toNat) % 65536 := by
  have hacc := acc.isLt
  have hb := b.isLt
  rw [cksumStep, BitVec.toNat_sub, BitVec.toNat_setWidth]
  omega

/-- Subtracting byte after byte is subtracting their sum. -/
theorem foldl_cksumStep_toInt (l : List Byte) (acc : Word) :
    ((l.foldl cksumStep acc).toNat : Int) = ((acc.toNat : Int) - (l.map BitVec.toNat).sum) % 65536 := by
  induction l generalizing acc with
  | nil =>
    have hacc := acc.isLt
    simp only [List.foldl_nil, List.map_nil, List.sum_nil]
    omega
  | cons b l ih =>
    rw [List.foldl_cons, ih, cksumStep_toInt, List.map_cons, List.sum_cons]
    omega

/-- The sum does not depend on the order, so neither does the fold. -/
theorem foldl_cksumStep_perm {l l' : List Byte} (h : l.Perm l') (acc : Word) :
    l.foldl cksumStep acc = l'.foldl cksumStep acc := by
  have hsum : (l.map BitVec.toNat).sum = (l'.map BitVec.toNat).sum := (h.map _).sum_eq
  apply BitVec.eq_of_toNat_eq
  rw [← Int.natCast_inj, foldl_cksumStep_toInt, foldl_cksumStep_toInt, hsum]

theorem cksum_toInt (b1 b2 b3 b4 b5 b6 : Byte) :
    ((cksum b1 b2 b3 b4 b5 b6).toNat : Int) =
      (0 - ((b1.toNat + b2.toNat + b3.toNat + b4.toNat + b5.toNat + b6.toNat : Nat) : Int)) % 65536 := by
  simpa [cksum, Nat.add_assoc] using foldl_cksumStep_toInt [b1, b2, b3, b4, b5, b6] 0

/-- R78: what was subtracted, added again, leaves zero. -/
theorem sum_add_cksum (b1 b2 b3 b4 b5 b6 : Byte) :
    b1.setWidth 16 + b2.setWidth 16 + b3.setWidth 16 + b4.setWidth 16 + b5.setWidth 16 + b6.setWidth 16 +
      cksum b1 b2 b3 b4 b5 b6 = (0 : Word) := by
  simp only [cksum, List.foldl, cksumStep]
  ring

/-! ### The bytes of an encoded frame (R75, R77, R78) -/

/-- Bytes 7 and 8 are the checksum of bytes 1 to 6, most significant byte first. -/
theorem ckBytes_encodeFrame (op : Byte) (fb : Bool) (p : Param) :
    (encodeFrame op fb p).ckMsb ++ (encodeFrame op fb p).ckLsb = frameCksum (encodeFrame op fb p) :=
  joinBytes_split _

/-- R77: the checksum of an encoded frame as a number. -/
theorem frameCksum_encodeFrame_toNat (op : Byte) (fb : Bool) (msb lsb : Byte) :
    (frameCksum (encodeFrame op fb ⟨msb, lsb⟩)).toNat = 0xFEFB - op.toNat - fb.toNat - msb.toNat - lsb.toNat :=
  cksum_toNat op fb msb lsb

/-- R77: the feedback byte takes one at most and the other three bytes 255 each. -/
theorem frameCksum_encodeFrame_range (op : Byte) (fb : Bool) (msb lsb : Byte) :
    0xFBFD ≤ (frameCksum (encodeFrame op fb ⟨msb, lsb⟩)).toNat ∧
      (frameCksum (encodeFrame op fb ⟨msb, lsb⟩)).toNat ≤ 0xFEFB := by
  have hop := op.isLt
  have hfb := fb.toNat_le
  have hmsb := msb.isLt
  have hlsb := lsb.isLt
  rw [frameCksum_encodeFrame_toNat]
  omega

/-- A word in the range of R77 has one of four high bytes. -/
theorem hiByte_mem_of_range {v : Word} (hlo : 0xFBFD ≤ v.toNat) (hhi : v.toNat ≤ 0xFEFB) :
    hiByte v ∈ ([0xFB, 0xFC, 0xFD, 0xFE] : List Byte) := by
  have hbyte := hiByte_toNat v
  have hcases : hiByte v = 0xFB ∨ hiByte v = 0xFC ∨ hiByte v = 0xFD ∨ hiByte v = 0xFE := by bv_omega
  simpa using hcases

theorem frameBytes_encodeFrame_toNat (op : Byte) (fb : Bool) (msb lsb : Byte) :
    (frameBytes (encodeFrame op fb ⟨msb, lsb⟩)).map BitVec.toNat =
      closedFrame op.toNat fb.toNat msb.toNat lsb.toNat :=
  congrArg CatPort.frame (portOf_encodeFrame op fb ⟨msb, lsb⟩)

/-! ### The codec's statements -/

/-- Settles O8: the number is `cksum_toInt`, and the order is lost in the sum. -/
theorem checksumIsTheNegatedSum : Obligations.ChecksumIsTheNegatedSum := by
  intro b1 b2 b3 b4 b5 b6
  exact ⟨rfl, cksum_toInt b1 b2 b3 b4 b5 b6, fun _ hperm => foldl_cksumStep_perm hperm 0, ckBytes_encodeFrame⟩

/-- Settles O9: the bytes as the catalog port shows them, and the high byte from the range. -/
theorem checksumClosedForm : Obligations.ChecksumClosedForm := by
  intro op fb msb lsb
  have hflag : fb.toNat = if fb then 1 else 0 := by cases fb <;> rfl
  obtain ⟨hlo, hhi⟩ := frameCksum_encodeFrame_range op fb msb lsb
  exact ⟨hflag ▸ frameBytes_encodeFrame_toNat op fb msb lsb, hlo, hhi, hiByte_mem_of_range hlo hhi⟩

/-- Settles O10: bytes 7 and 8 are the checksum, which makes up the sum to zero. -/
theorem checksumProperty : Obligations.ChecksumProperty := by
  intro op fb msb lsb f
  have hck : f.ckMsb ++ f.ckLsb = cksum f.version f.len f.opcode f.fb f.msb f.lsb :=
    ckBytes_encodeFrame op fb ⟨msb, lsb⟩
  refine ⟨hck, ?_, frameWellFormed_encodeFrame op fb ⟨msb, lsb⟩⟩
  rw [hck]
  exact sum_add_cksum f.version f.len f.opcode f.fb f.msb f.lsb

/-- Settles O7: the ten bytes are those `encode` is written with, and the source's example is evaluated. -/
theorem encodeYieldsTheTenBytes : Obligations.EncodeYieldsTheTenBytes := by
  intro op fb msb lsb
  exact ⟨rfl, by decide⟩

/-! ### Operands handed to the codec as they come -/

/-- R60: a request completes with the result of the operation it decodes to, and changes nothing else. -/
theorem catalogShows_of_catalogOf {sel : BitVec 5} {a b : Word} {i : Instr} {r : Config → CatResult}
    (hd : decode (.request sel a b) = .instr i) (hr : catalogOf i = some r) : CatalogShows sel a b i r :=
  ⟨hd, fun s hw => (exec_of_catalogOf hr s).trans (showCatalog_of_wellFormed hw _)⟩

/-- Settles O14: each operation's pure function is `encode` of its operands, with no validation before it. -/
theorem rawSetVolumePlayFolderShowTheirFrame : Obligations.RawSetVolumePlayFolderShowTheirFrame := by
  intro a b
  exact ⟨catalogShows_of_catalogOf rfl rfl, catalogShows_of_catalogOf rfl rfl, catalogShows_of_catalogOf rfl rfl⟩

end Sys2Proof.Proofs.FrameCodec
end

section
/-! PROOFS, 41_catalog_explicit.md. The operations whose encoding the source spells out: the 16-bit operand split
big-endian, the packed operand of R87, the two validations (R85, R88), and the two fixed sources (R89, R90). -/

namespace Sys2Proof.Proofs.CatalogExplicit

open Sys2Proof.Machine Sys2Proof.Safety Sys2Proof.Proofs.Scope Sys2Proof.Proofs.Encoding Sys2Proof.Proofs.Codec
open Sys2Proof.Proofs.Catalog Sys2Proof.Proofs.FrameCodec

/-- R60: a request completes with `r` where `r` is the operation's pure function on the well-formed configurations. -/
theorem catalogShows_congr {sel : BitVec 5} {a b : Word} {i : Instr} {g r : Config → CatResult}
    (hd : decode (.request sel a b) = .instr i) (hg : catalogOf i = some g)
    (heq : ∀ c : Config, c.wellFormed = true → g c = r c) : CatalogShows sel a b i r := by
  obtain ⟨-, hexec⟩ := catalogShows_of_catalogOf hd hg
  exact ⟨hd, fun s hw => heq s.cfg hw ▸ hexec s hw⟩

/-! ### Operands that are not validated -/

/-- Settles O13: each operation's pure function is `encode` of the split operand, with no validation before it. -/
theorem numericOperationsShowTheirFrame : Obligations.NumericOperationsShowTheirFrame := by
  intro a b p
  refine ⟨?_, ?_, ?_, ?_, ?_, ?_, ?_, ?_, ?_⟩ <;> exact catalogShows_of_catalogOf rfl rfl

/-- R61, R87: the folder comes in the low byte of its port, and only four of those bits are packed. -/
theorem packFolder_loByte_toNat (a b : Word) :
    (packFolder (loByte a) b).toNat = a.toNat % 16 * 4096 + b.toNat % 4096 := by
  have hfolder : a.toNat % 256 % 16 = a.toNat % 16 := Nat.mod_mod_of_dvd _ (by decide)
  rw [packFolder_toNat, loByte_toNat, hfolder]

/-- Settles O15: `q` is the value that form PACK splits. -/
theorem playFolderLargePacks : Obligations.PlayFolderLargePacks := fun a b =>
  ⟨packFolder (loByte a) b, rfl, packFolder_loByte_toNat a b, catalogShows_of_catalogOf rfl rfl⟩

/-! ### The two validations -/

theorem catSelectSource_of_inRange {src : Byte} (h : 1 ≤ src.toNat ∧ src.toNat ≤ 5) :
    catSelectSource src = .ok (encodeFrame 0x09 true (paramB8 src)) :=
  if_pos ((sourceInRange_iff src).2 h)

theorem catSelectSource_of_outOfRange {src : Byte} (h : src.toNat < 1 ∨ 5 < src.toNat) :
    catSelectSource src = .reject .sourceRange :=
  if_neg (mt (sourceInRange_iff src).1 (by omega))

theorem gainInRange_iff (g : Byte) : gainInRange g = true ↔ g.toNat ≤ 31 := decide_eq_true_iff

theorem catVolumeAdjust_of_inRange (c : Config) {g : Byte} (h : g.toNat ≤ 31) :
    catVolumeAdjust c g = .ok (encodeFrame 0x10 true (paramAdj c g)) :=
  if_pos ((gainInRange_iff g).2 h)

theorem catVolumeAdjust_of_outOfRange (c : Config) {g : Byte} (h : 31 < g.toNat) :
    catVolumeAdjust c g = .reject .gainRange :=
  if_neg (mt (gainInRange_iff g).1 (by omega))

/-- R6, R88: the base constant is at most 224, so a gain of at most 31 stays within the byte. -/
theorem volAdjBase_add_toNat {c : Config} (hw : c.wellFormed = true) {g : Byte} (hg : g.toNat ≤ 31) :
    (c.volAdjBase + g).toNat = c.volAdjBase.toNat + g.toNat := by
  obtain ⟨-, -, -, -, -, hbase⟩ := (config_wellFormed_iff c).1 hw
  exact BitVec.toNat_add_of_lt (by omega)

/-- Settles O16: the validation reads the low byte of the port. -/
theorem selectSourceValidates : Obligations.SelectSourceValidates := by
  intro a b src
  have hsrc : src.toNat = a.toNat % 256 := loByte_toNat a
  rw [← hsrc]
  refine ⟨fun h => ?accepted, fun h => ?rejected, rfl, rfl, rfl⟩
  case accepted => exact catalogShows_congr rfl rfl fun _ _ => catSelectSource_of_inRange h
  case rejected => exact catalogShows_congr rfl rfl fun _ _ => catSelectSource_of_outOfRange h

/-- Settles O17: the validation reads the low byte of the port, and what it accepts does not wrap the sum. -/
theorem volumeAdjustValidates : Obligations.VolumeAdjustValidates := by
  intro a b g
  have hg : g.toNat = a.toNat % 256 := loByte_toNat a
  rw [← hg]
  refine ⟨fun h => ⟨?accepted, fun c hw => volAdjBase_add_toNat hw h⟩, fun h => ?rejected, rfl, rfl, rfl⟩
  case accepted => exact catalogShows_congr rfl rfl fun c _ => catVolumeAdjust_of_inRange c h
  case rejected => exact catalogShows_congr rfl rfl fun c _ => catVolumeAdjust_of_outOfRange c h

/-! ### The two fixed sources (R89, R90) -/

theorem catSleep_of_wellFormed {c : Config} (hw : c.wellFormed = true) :
    catSleep c = .ok (encodeFrame 0x09 true (paramB8 c.srcSleep)) := by
  obtain ⟨-, -, -, hsleep, -⟩ := (config_wellFormed_iff c).1 hw
  exact catSelectSource_of_inRange hsleep

theorem catWake_of_wellFormed {c : Config} (hw : c.wellFormed = true) :
    catWake c = .ok (encodeFrame 0x09 true (paramB8 c.srcCard)) := by
  obtain ⟨-, -, -, -, hcard, -⟩ := (config_wellFormed_iff c).1 hw
  exact catSelectSource_of_inRange hcard

/-- Settles O18: both are defined as SELECT_SOURCE of their constant, which R6 bounds to what R85 accepts. -/
theorem sleepAndWakeSelectTheirSource : Obligations.SleepAndWakeSelectTheirSource := fun _ _ =>
  ⟨catalogShows_congr rfl rfl fun _ => catSleep_of_wellFormed,
    catalogShows_congr rfl rfl fun _ => catWake_of_wellFormed, fun _ => ⟨rfl, rfl⟩⟩

end Sys2Proof.Proofs.CatalogExplicit
end

section
/-! PROOFS, 42_catalog_fixed.md. The operations without operands, whose frame is the same for every request (R95 to
R112), and the selectors that name no operation (R116). -/

namespace Sys2Proof.Proofs.CatalogFixed

open Sys2Proof.Machine Sys2Proof.Safety Sys2Proof.Proofs.Encoding Sys2Proof.Proofs.Codec
open Sys2Proof.Proofs.Fetch Sys2Proof.Proofs.Catalog Sys2Proof.Proofs.FrameCodec

/-! ### The constant frames -/

/-- The frame of form ZERO (R62) as the rules R95 to R112 print it: the checksum's high byte is `0xFE`, and its low
byte takes the opcode and the feedback byte from `0xFB`. -/
def zeroFrame (op : Byte) (fb : Bool) : Frame :=
  ⟨0x7E, 0xFF, 0x06, op, fbByte fb, 0x00, 0x00, 0xFE, 0xFB - op - fbByte fb, 0xEF⟩

/-- R77 for zero parameter bytes: while opcode and feedback byte together do not exceed `0xFB`, nothing is borrowed
from the checksum's high byte. -/
theorem encodeFrame_paramZero {op : Byte} {fb : Bool} (hop : op.toNat + fb.toNat ≤ 0xFB) :
    encodeFrame op fb paramZero = zeroFrame op fb := by
  have hck : (cksum 0xFF 0x06 op (fbByte fb) 0x00 0x00).toNat = 0xFEFB - op.toNat - fb.toNat := by
    simpa using cksum_toNat op fb 0x00 0x00
  have hmsb : hiByte (cksum 0xFF 0x06 op (fbByte fb) 0x00 0x00) = 0xFE := by
    apply BitVec.eq_of_toNat_eq
    simp only [hiByte_toNat, hck, BitVec.reduceToNat]
    omega
  have hlsb : loByte (cksum 0xFF 0x06 op (fbByte fb) 0x00 0x00) = 0xFB - op - fbByte fb := by
    apply BitVec.eq_of_toNat_eq
    simp only [loByte_toNat, hck, BitVec.toNat_sub, fbByte_toNat, BitVec.reduceToNat]
    omega
  simp only [encodeFrame, paramZero, zeroFrame, hmsb, hlsb]

/-- R60, R62: an operation of form ZERO completes with the constant frame of its opcode and flag. -/
theorem catalogShows_zeroFrame {sel : BitVec 5} {a b : Word} {i : Instr} (op : Byte) (fb : Bool)
    (hd : decode (.request sel a b) = .instr i)
    (hr : catalogOf i = some fun _ => .ok (encodeFrame op fb paramZero)) (hop : op.toNat + fb.toNat ≤ 0xFB) :
    CatalogShows sel a b i (fun _ => .ok (zeroFrame op fb)) :=
  encodeFrame_paramZero hop ▸ catalogShows_of_catalogOf hd hr

/-- Settles O12: opcode and feedback flag of each operation; its frame is the constant frame of the two. -/
theorem constantOperationsShowTheirFrame : Obligations.ConstantOperationsShowTheirFrame := fun _ _ =>
  ⟨catalogShows_zeroFrame 0x01 true rfl rfl (by decide), catalogShows_zeroFrame 0x02 true rfl rfl (by decide),
    catalogShows_zeroFrame 0x04 true rfl rfl (by decide), catalogShows_zeroFrame 0x05 true rfl rfl (by decide),
    catalogShows_zeroFrame 0x0A true rfl rfl (by decide), catalogShows_zeroFrame 0x0B true rfl rfl (by decide),
    catalogShows_zeroFrame 0x0C true rfl rfl (by decide), catalogShows_zeroFrame 0x0D false rfl rfl (by decide),
    catalogShows_zeroFrame 0x0E false rfl rfl (by decide), catalogShows_zeroFrame 0x15 true rfl rfl (by decide),
    catalogShows_zeroFrame 0x16 true rfl rfl (by decide), catalogShows_zeroFrame 0x18 true rfl rfl (by decide)⟩

/-! ### The reserved selectors -/

/-- Settles O19: from `0x1D` on the decoder finds no row, so the turn shows the rejection and runs no instruction. -/
theorem reservedSelectorsAreRejected : Obligations.ReservedSelectorsAreRejected :=
  fun _ _ _ _ _ hw hsched hsel => ⟨step_of_reservedSelector hw hsched hsel, rfl, rfl, rfl⟩

end Sys2Proof.Proofs.CatalogFixed
end

section
/-! PROOFS, 43_dispatcher.md. The single steps: an initialization step and a message, in their turn and out of it
(R123 to R127, R133 to R139), the Sink's answers (R128, R129) and the tick (R131). -/

namespace Sys2Proof.Proofs.DispatcherSteps

open Sys2Proof.Machine Sys2Proof.Safety Sys2Proof.Proofs.StepRules Sys2Proof.Proofs.Registers
open Sys2Proof.Proofs.CleanRound Sys2Proof.Proofs.Fetch Sys2Proof.Proofs.CatalogFixed

/-! ### The meanings in their turn -/

/-- Settles O26: each of the three is a `start_send` (R127), which is what `afterSend` spells out. -/
theorem initStepsSendTheirFrame : Obligations.InitStepsSendTheirFrame :=
  fun _ hw hp hs => ⟨exec_init0 hw hp hs, exec_init1 hw hp hs, exec_init2 hw hp hs⟩

section
variable {s : State} (hw : s.cfg.wellFormed = true) (hp : s.phase = .run) (hs : s.st = .idle)
include hw hp hs

/-- R133, R127: the guard of a message lets its `start_send` through, which it runs on `u`. -/
theorem whenRunIdle_sends {r : CatResult} {f : Frame} (hr : r = .ok f) (u : State) :
    whenRunIdle s (sendCatalog r u) = .next (afterSend u f) := by
  rw [whenRunIdle_of_enabled hw hp hs, hr]
  rfl

theorem whenRunIdle_sends_zeroFrame (op : Byte) (fb : Bool) (hop : op.toNat + fb.toNat ≤ 0xFB) :
    whenRunIdle s (sendCatalog (.ok (encodeFrame op fb paramZero)) s) = .next (afterSend s (zeroFrame op fb)) :=
  whenRunIdle_sends hw hp hs (congrArg CatResult.ok (encodeFrame_paramZero hop)) s

end

/-- Settles O27: PAUSE, RESUME and STOP send the constant frame of their opcode and flag, TRACK that of PLAY_TRACK. -/
theorem transportAndTrackMessagesSendTheirFrame : Obligations.TransportAndTrackMessagesSendTheirFrame :=
  fun s hw hp hs =>
    ⟨whenRunIdle_sends_zeroFrame hw hp hs 0x0E false (by decide),
      whenRunIdle_sends_zeroFrame hw hp hs 0x0D false (by decide),
      whenRunIdle_sends_zeroFrame hw hp hs 0x16 true (by decide),
      fun _ => whenRunIdle_sends hw hp hs rfl s⟩

theorem toNat_add_one (v : Byte) : (v + 1).toNat = (v.toNat + 1) % 256 :=
  BitVec.toNat_add v 1

theorem toNat_sub_one (v : Byte) : (v - 1).toNat = (v.toNat + 255) % 256 := by
  rw [BitVec.toNat_sub, Nat.add_comm]
  rfl

/-- Settles O28: the message runs its `start_send` on the state whose VOL it has stepped. -/
theorem volumeMessagesStepThenSend : Obligations.VolumeMessagesStepThenSend :=
  fun s hw hp hs =>
    ⟨⟨s.vol + 1, toNat_add_one s.vol, whenRunIdle_sends hw hp hs rfl { s with vol := s.vol + 1 }⟩,
      ⟨s.vol - 1, toNat_sub_one s.vol, whenRunIdle_sends hw hp hs rfl { s with vol := s.vol - 1 }⟩⟩

/-! ### The meanings out of their turn -/

theorem whenRunIdle_of_notEnabled {s : State} (hw : s.cfg.wellFormed = true) (hne : ¬(s.phase = .run ∧ s.st = .idle))
    (r : Result) : whenRunIdle s r = .next (noStep s) := by
  rw [whenRunIdle, guarded_of_wellFormed hw, if_neg hne]

theorem whenInitIdle_of_notEnabled {s : State} {k : BitVec 2} (hw : s.cfg.wellFormed = true)
    (hne : ¬(s.phase = .init ∧ s.st = .idle ∧ s.initIdx = k)) (r : Result) :
    whenInitIdle k s r = .next (noStep s) := by
  rw [whenInitIdle, guarded_of_wellFormed hw, if_neg hne]

/-- Settles O29: the guard of the message or of the initialization step; a catalog operation is always enabled. -/
theorem dispatcherInstructionsWaitWhenNotEnabled : Obligations.DispatcherInstructionsWaitWhenNotEnabled := by
  intro i s hw hne
  cases i with
  | msgTrack | msgPause | msgResume | msgStop | msgVolup | msgVoldown => exact whenRunIdle_of_notEnabled hw hne _
  | init0 | init1 | init2 => exact whenInitIdle_of_notEnabled hw hne _
  | _ => exact absurd trivial hne

/-! ### Initialization dispatch -/

/-- Settles O30: the step runs the instruction that INIT_IDX selects (R123), and that one sends its frame. -/
theorem initializationDispatch : Obligations.InitializationDispatch := by
  intro s hw ha hp hs hk
  obtain ⟨-, -, hruns⟩ := stepRunsTheDecodedInstruction
  obtain ⟨hsend0, hsend1, hsend2⟩ := initStepsSendTheirFrame { s with sched := s.sched.tail, obs := [] } hw hp hs
  have hcases : s.initIdx = 0 ∨ s.initIdx = 1 ∨ s.initIdx = 2 := by bv_omega
  rcases hcases with hi | hi | hi
  · exact ⟨_, by rw [hi]; rfl, (hruns s .init0 hw ha hp hs (by rw [hi]; rfl)).trans (hsend0 hi)⟩
  · exact ⟨_, by rw [hi]; rfl, (hruns s .init1 hw ha hp hs (by rw [hi]; rfl)).trans (hsend1 hi)⟩
  · exact ⟨_, by rw [hi]; rfl, (hruns s .init2 hw ha hp hs (by rw [hi]; rfl)).trans (hsend2 hi)⟩

/-! ### The Sink's answers -/

/-- Settles O32: a call is pending (R19), as HALT is ruled out by R21 (v). -/
theorem sinkOkAnswers : Obligations.SinkOkAnswers := by
  intro s rest hw hhalt
  have running : s.st ≠ .idle → s.phase ≠ .halt := mt hhalt
  refine ⟨fun hs hsched => ?_, fun hs hsched => ?_⟩
  · have hc := (pendingCall_iff s .send).2 ⟨running (by simp [hs]), .inl ⟨rfl, hs⟩⟩
    rw [step_of_sinkOk hw (nextAction_cons hsched) hc]
    simp [sinkOk, observe, beginStep, hsched]
  · have hc := (pendingCall_iff s .flush).2 ⟨running (by simp [hs]), .inr ⟨rfl, hs⟩⟩
    rw [step_of_sinkOk hw (nextAction_cons hsched) hc]
    simp [sinkOk, enterPace, observe, beginStep, hsched]

theorem step_of_sinkErr {s : State} {c : SinkCall} (hw : s.cfg.wellFormed = true) (ha : nextAction s = .sink c .err)
    (hc : pendingCall s = some c) :
    step s = .next (takeTransportError c (observe (.answered c .err) (beginStep s))) := by
  have hc' : pendingCall (beginStep s) = some c := hc
  rw [step_of_sink hw ha, sinkAnswer, if_pos hc']

theorem errStrobe_of_obs {t : State} {c : SinkCall} (h : t.obs = [.answered c .err, .txError c]) :
    errStrobe t = true := by
  simp [errStrobe, txErrorOf, h]

/-- R153: the codes of `err_kind`. -/
theorem errKind_of_obs {t : State} {c : SinkCall} (h : t.obs = [.answered c .err, .txError c]) :
    errKind t = some (if c = .send then 0 else 1) := by
  cases c <;> simp [errKind, txErrorOf, txKindCode, h]

/-- Settles O33: the error answer to the pending call is taken as PHASE says. -/
theorem transportErrorsAreTaken : Obligations.TransportErrorsAreTaken := by
  intro s c rest hw hsched hcall
  have hstep : s.phase ≠ .halt → step s = .next (takeTransportError c (observe (.answered c .err) (beginStep s))) :=
    fun hp => step_of_sinkErr hw (nextAction_cons hsched) ((pendingCall_iff s c).2 ⟨hp, hcall⟩)
  refine ⟨fun hp => ⟨_, ?_, rfl, errStrobe_of_obs rfl, errKind_of_obs rfl, rfl⟩,
    fun hp => ⟨_, ?_, rfl, errStrobe_of_obs rfl, errKind_of_obs rfl, by simp [halted, hp]⟩⟩
  · rw [hstep (by simp [hp]), takeTransportError_init (s := observe _ (beginStep s)) c hp]
    simp [observe, beginStep, hsched]
  · rw [hstep (by simp [hp]), takeTransportError_run (s := observe _ (beginStep s)) c hp]
    simp [enterPace, observe, beginStep, hsched]

/-! ### The tick -/

/-- Settles O35: the two arms of R131, HALT being ruled out of the first by R21 (v). -/
theorem tickCountsThePacingDelay : Obligations.TickCountsThePacingDelay := by
  intro s rest hw hhalt hsched
  have ha := nextAction_cons hsched
  refine ⟨fun ⟨hs, hn⟩ => ?_, fun hidle => ?_⟩
  · have hp : s.phase ≠ .halt := mt hhalt (by simp [hs])
    rw [step_of_countedTick hw ha hp hs hn]
    simp [observe, beginStep, hsched]
  · rw [step_of_tick hw ha, tickClock, if_neg fun ⟨_, hdelay⟩ => hidle hdelay]
    simp [observe, beginStep, hsched]

end Sys2Proof.Proofs.DispatcherSteps
end

section
/-! PROOFS, 43_dispatcher.md. What a run without a reset keeps: HALT (R140), VOL as a count of the messages dequeued
(R137, R138), and the pacing delay between the end of a frame and the next `send` (R130 to R132). -/

namespace Sys2Proof.Proofs.DispatcherRuns

open Sys2Proof.Machine Sys2Proof.Safety Sys2Proof.Proofs.Scope Sys2Proof.Proofs.Registers Sys2Proof.Proofs.Runs
open Sys2Proof.Proofs.DispatcherSteps

/-! ### HALT -/

/-- From `s` to `t`, showing `es`, the block took words into its queue, within the capacity of R5, and did nothing
else. -/
structure OnlyEnqueued (s t : State) (es : List Event) : Prop where
  state    : t = { s with q := s.q ++ enqueuedWords es, sched := t.sched, obs := t.obs }
  bound    : s.q.length ≤ 10 → t.q.length ≤ 10
  sent     : sentFrames es = []
  noFlush  : Event.flush ∉ es
  dequeued : dequeuedWords es = []

theorem onlyEnqueued_refl (s : State) : OnlyEnqueued s s [] where
  state := by simp [enqueuedWords]
  bound := id
  sent := rfl
  noFlush := List.not_mem_nil
  dequeued := rfl

theorem onlyEnqueued_trans {s t u : State} {es fs : List Event} (hst : OnlyEnqueued s t es)
    (htu : OnlyEnqueued t u fs) : OnlyEnqueued s u (es ++ fs) where
  state := by
    rw [htu.state, hst.state]
    simp
  bound := htu.bound ∘ hst.bound
  sent := by simp [hst.sent, htu.sent]
  noFlush := by simp [hst.noFlush, htu.noFlush]
  dequeued := by simp [hst.dequeued, htu.dequeued]

/-- R140: in HALT the one agent that finds an effect is a producer. -/
theorem onlyEnqueued_of_halt {s t : State} (hp : s.phase = .halt) (hstep : step s = .next t)
    (hreset : noReset t.obs = true) : OnlyEnqueued s t t.obs := by
  obtain ⟨hw, hdid⟩ := step_next hstep
  cases hdid with
  | enqueued _ w _ _ hl h =>
    have hcap : s.cfg.qCap = 10 := ((config_wellFormed_iff s.cfg).1 hw).1
    rw [h]
    exact ⟨rfl, fun _ => by simp; omega, rfl, by simp, rfl⟩
  | nothing h | ticked _ h | dropped _ _ _ _ h | suspended _ _ _ _ _ h | catalog _ _ _ _ _ h =>
    rw [h]
    exact ⟨by simp [enqueuedWords, noStep, observe, beginStep], id, rfl, by simp, rfl⟩
  | sinkOk _ _ hc _ | sinkErr _ _ hc _ => exact absurd hp (pendingCall_some hc).1
  | counted _ hne _ _ _ => exact absurd hp hne
  | initSend _ hi _ _ _ | message _ _ hi _ _ _ _ | initPaced _ hi _ _ _ _ | lastInitPaced hi _ _ _ _
  | runPaced hi _ _ _ =>
    cases hp.symm.trans hi
  | reset _ h => simp [h, noReset] at hreset

/-- Settles O55: `OnlyEnqueued` holds of no steps, keeps the phase, and every step taken in HALT carries it on. -/
theorem haltIsForGood : Obligations.HaltIsForGood := by
  intro n s t es hp hrun hreset
  have hkept : OnlyEnqueued s t es :=
    runShows_carries_noReset (P := OnlyEnqueued s)
      (fun {u _ _} hstep hobs hP =>
        have hu : u.phase = .halt := by rw [hP.state]; exact hp
        onlyEnqueued_trans hP (onlyEnqueued_of_halt hu hstep hobs))
      hrun hreset (onlyEnqueued_refl s)
  obtain ⟨hstate, hbound, hsent, hflush, hdeq⟩ := hkept
  refine ⟨?_, ?_, ?_, ?_, ?_, ?_, ?_, hbound, hsent, hflush, hdeq⟩ <;> rw [hstate]
  exact hp

/-! ### VOL -/

/-- The words dequeued take VOL along; every other step but a reset leaves it. -/
theorem vol_step {s t : State} (hstep : step s = .next t) (hreset : noReset t.obs = true) :
    t.vol = (dequeuedWords t.obs).foldl volAfter s.vol := by
  obtain ⟨-, hdid⟩ := step_next hstep
  cases hdid with
  | message w ws _ _ _ _ h => simp [h, dequeuedWords]
  | sinkOk c _ _ h => cases c <;> simp [h, sinkOk_obs, dequeuedWords]
  | reset _ h => simp [h, noReset] at hreset
  | nothing h | initSend _ _ _ _ h | sinkErr _ _ _ h | counted _ _ _ _ h | ticked _ h | initPaced _ _ _ _ _ h
  | lastInitPaced _ _ _ _ h | runPaced _ _ _ h | dropped _ _ _ _ h | enqueued _ _ _ _ _ h | suspended _ _ _ _ _ h
  | catalog _ _ _ _ _ h =>
    simp [h, dequeuedWords]

theorem tagCount_singleton (tag : BitVec 3) (w : MsgWord) : tagCount tag [w] = if msgTag w = tag then 1 else 0 := by
  simp [tagCount]

theorem tagCount_cons (tag : BitVec 3) (w : MsgWord) (ws : List MsgWord) :
    tagCount tag (w :: ws) = tagCount tag [w] + tagCount tag ws :=
  List.countP_append (l₁ := [w])

/-- R137, R138: one message moves VOL up by one, down by one, or not at all, modulo 256. -/
theorem volAfter_toNat (vol : Byte) (w : MsgWord) :
    ((volAfter vol w).toNat : Int) = ((vol.toNat : Int) + tagCount 4 [w] - tagCount 5 [w]) % 256 := by
  have hlt := vol.isLt
  simp only [volAfter, tagCount_singleton]
  split_ifs with hup hdown
  · exact absurd (hup.symm.trans hdown) (by decide)
  · rw [toNat_add_one]
    omega
  · rw [toNat_sub_one]
    omega
  · omega

theorem foldl_volAfter_toNat (vol : Byte) (ws : List MsgWord) :
    ((ws.foldl volAfter vol).toNat : Int) = ((vol.toNat : Int) + tagCount 4 ws - tagCount 5 ws) % 256 := by
  induction ws generalizing vol with
  | nil =>
    have hlt := vol.isLt
    simp only [List.foldl_nil, tagCount, List.countP_nil]
    omega
  | cons w ws ih =>
    rw [List.foldl_cons, ih, volAfter_toNat, tagCount_cons 4 w ws, tagCount_cons 5 w ws]
    push_cast
    omega

/-- Settles O50: VOL is where the messages dequeued took it, and each of them moves it as its tag says. -/
theorem volCountsVolumeMessages : Obligations.VolCountsVolumeMessages := by
  intro n s t es hrun hreset
  have hvol : t.vol = (dequeuedWords es).foldl volAfter s.vol :=
    runShows_carries_noReset (P := fun u fs => u.vol = (dequeuedWords fs).foldl volAfter s.vol)
      (fun hstep hobs hP => by rw [vol_step hstep hobs, hP, dequeuedWords_append, List.foldl_append])
      hrun hreset rfl
  rw [hvol]
  exact foldl_volAfter_toNat s.vol (dequeuedWords es)

/-! ### Pacing -/

@[simp] theorem tickCount_append (es fs : List Event) : tickCount (es ++ fs) = tickCount es + tickCount fs :=
  List.countP_append

/-- With the events `es` shown since the end of a frame, `k` ticks were counted, or nothing was sent and the block
halted or still has the missing ticks to wait for. -/
def Paced (k : Nat) (s : State) (es : List Event) : Prop :=
  k ≤ tickCount es ∨
    sentFrames es = [] ∧ (s.phase = .halt ∨ s.st = .pace ∧ k ≤ s.paceCnt + tickCount es)

/-- R129, R130: the answer that ends a frame starts the whole delay or halts the block. -/
theorem paced_of_endsFrame {s t : State} (hstep : step s = .next t) (hend : endsFrame t.obs = true) :
    Paced s.cfg.paceTicks t [] := by
  refine .inr ⟨rfl, ?_⟩
  obtain ⟨-, hdid⟩ := step_next hstep
  cases hdid with
  | sinkOk c _ _ h =>
    cases c with
    | send => simp [h, sinkOk_obs, endsFrame] at hend
    | flush => exact .inr (by simp [h, sinkOk])
  | sinkErr c _ hc h =>
    obtain ⟨hp, -⟩ := pendingCall_some hc
    cases hphase : s.phase with
    | halt => exact absurd hphase hp
    | init => exact .inl (by simp [h, takeTransportError_phase, hphase])
    | run => exact .inr (by simp [h, takeTransportError_run, hphase])
  | nothing h | initSend _ _ _ _ h | message _ _ _ _ _ _ h | counted _ _ _ _ h | ticked _ h | initPaced _ _ _ _ _ h
  | lastInitPaced _ _ _ _ h | runPaced _ _ _ h | dropped _ _ _ _ h | enqueued _ _ _ _ _ h | suspended _ _ _ _ _ h
  | catalog _ _ _ _ _ h | reset _ h =>
    simp [h, endsFrame] at hend

/-- R131, R132: a step taken in the delay sends nothing, and ends it only where no tick is left to wait for. -/
theorem pace_step {s t : State} (hs : s.st = .pace) (hstep : step s = .next t) (hreset : noReset t.obs = true) :
    sentFrames t.obs = [] ∧ (s.paceCnt = 0 ∨ t.st = .pace ∧ s.paceCnt ≤ t.paceCnt + tickCount t.obs) := by
  obtain ⟨-, hdid⟩ := step_next hstep
  cases hdid with
  | counted _ _ _ _ h =>
    rw [h]
    exact ⟨rfl, .inr ⟨hs, Nat.le_add_of_sub_le (Nat.le_refl _)⟩⟩
  | initPaced _ _ _ hn _ h | lastInitPaced _ _ hn _ h | runPaced _ _ hn h => exact ⟨by rw [h]; rfl, .inl hn⟩
  | nothing h | ticked _ h | dropped _ _ _ _ h | enqueued _ _ _ _ _ h | suspended _ _ _ _ _ h
  | catalog _ _ _ _ _ h =>
    rw [h]
    exact ⟨rfl, .inr ⟨hs, Nat.le_add_right _ _⟩⟩
  | initSend _ _ hi _ _ | message _ _ _ hi _ _ _ => cases hs.symm.trans hi
  | sinkOk _ _ hc _ | sinkErr _ _ hc _ =>
    obtain ⟨-, ⟨-, hcall⟩ | ⟨-, hcall⟩⟩ := pendingCall_some hc <;> cases hs.symm.trans hcall
  | reset _ h => simp [h, noReset] at hreset

theorem paced_step {k : Nat} {s t : State} {es : List Event} (hpaced : Paced k s es) (hstep : step s = .next t)
    (hreset : noReset t.obs = true) : Paced k t (es ++ t.obs) := by
  have hticks := tickCount_append es t.obs
  rcases hpaced with hdone | ⟨hsent, hp | ⟨hs, hleft⟩⟩
  · exact .inl (by omega)
  · have hkept := onlyEnqueued_of_halt hp hstep hreset
    have ht : t.phase = .halt := by rw [hkept.state]; exact hp
    exact .inr ⟨by simp [hsent, hkept.sent], .inl ht⟩
  · obtain ⟨hnone, hzero | ⟨ht, hle⟩⟩ := pace_step hs hstep hreset
    · exact .inl (by omega)
    · exact .inr ⟨by simp [hsent, hnone], .inr ⟨ht, by omega⟩⟩

/-- Settles O51: `Paced` holds when the frame ends, and every step carries it on. -/
theorem pacingSeparatesFrames : Obligations.PacingSeparatesFrames := by
  intro n s s' t es hstep hend hrun hreset hsends
  have hpaced : Paced s.cfg.paceTicks t es :=
    runShows_carries_noReset (fun hstep hobs hP => paced_step hP hstep hobs) hrun hreset
      (paced_of_endsFrame hstep hend)
  rcases hpaced with hticks | ⟨hnone, -⟩
  · exact hticks
  · exact absurd hnone hsends

end Sys2Proof.Proofs.DispatcherRuns
end

section
/-! PROOFS, 70_reset_and_hazards.md. The reset step (R170), and the clean boot (R174) as three rounds of one kind, counted
by how many initialization frames are behind the state. -/

namespace Sys2Proof.Proofs.ResetAndHazards

open Sys2Proof.Machine Sys2Proof.Safety Sys2Proof.Proofs.StepRules Sys2Proof.Proofs.Registers
open Sys2Proof.Proofs.CleanRound Sys2Proof.Proofs.Runs Sys2Proof.Proofs.DispatcherSteps

/-! ### The reset step -/

/-- Settles O38: the step is `resetStep`, and its tick is one with `rst = 1`. -/
theorem resetStepSetsEveryRegister : Obligations.ResetStepSetsEveryRegister := by
  intro s rest hw hsched
  have hrst : rstInput s = true := rstInput_of_reset hsched
  refine ⟨resetStep (beginStep s), step_of_reset hw (nextAction_cons hsched), rfl, rfl, rfl, rfl, rfl, rfl, rfl,
    by simp [hsched], ?_, ?_, ?_, rfl, fun rst => ?_⟩
  · exact fun w => by rw [hrst, enqReady_rst]
  · rw [hrst, txSendReq_rst]
  · rw [hrst, txFlushReq_rst]
  · cases rst <;> simp

/-! ### From `send` to the last tick of the pacing delay -/

/-- In phase INIT as in phase RUN, a frame handed to a Sink that answers ok is flushed and its delay counted down,
without another call of `send`. -/
theorem runShows_toPaceOver {s : State} {rest : List Action} (hw : s.cfg.wellFormed = true) (hp : s.phase ≠ .halt)
    (hs : s.st = .send) (hsched : s.sched = (cleanRound s.cfg).tail ++ rest) :
    ∃ t es, runShows (s.cfg.paceTicks + 2) s = some (t, es) ∧ sentFrames es = [] ∧
      SameBlock t { s with st := .pace, paceCnt := 0 } ∧ t.sched = .dispatcher :: rest := by
  have hactions : s.sched = .sink .send .ok :: .sink .flush .ok :: (List.replicate s.cfg.paceTicks .tick ++
      .dispatcher :: rest) := by simp [hsched, cleanRound]
  obtain ⟨hsend, -⟩ := sinkOkAnswers s _ hw (absurd · hp)
  obtain ⟨-, hflush⟩ := sinkOkAnswers { s with
    st := .flush, sched := s.sched.tail, obs := [.answered .send .ok, .flush] } _ hw (absurd · hp)
  obtain ⟨t, hticks, hsame, hrest⟩ := runShows_ticks s.cfg.paceTicks
    (s := { s with
      st := .pace, paceCnt := s.cfg.paceTicks, sched := s.sched.tail.tail, obs := [.answered .flush .ok] })
    hw hp rfl rfl (by rw [hactions]; rfl)
  have hrun := runShows_step (hflush rfl (by rw [hactions]; rfl)) (by simpa [hactions] using hticks)
  refine ⟨t, _, runShows_step (hsend hs hactions) (by simpa [hactions] using hrun), ?_, hsame, hrest⟩
  simp [sentFrames]

/-! ### The rounds of the initialization sequence -/

/-- `k` rounds of the boot are over (R123, R132): the registers that stay as they are from the start of a round until the
end of its pacing delay. -/
structure Booted (c : Config) (k : Nat) (s : State) : Prop where
  cfg     : s.cfg = c
  phase   : s.phase = if k = 3 then .run else .init
  initIdx : s.initIdx.toNat = min k 2
  vol     : s.vol = c.volDefault
  q       : s.q = []

theorem booted_reset (c : Config) (sched : List Action) : Booted c 0 { State.resetFor c with sched := sched } :=
  ⟨rfl, rfl, rfl, rfl, rfl⟩

theorem booted_of_sameBlock {c : Config} {k : Nat} {s t : State} (hsame : SameBlock t s) (hb : Booted c k s) :
    Booted c k t := by
  obtain ⟨hvol, hphase, hidx, -, -, hq, hcfg, -⟩ := hsame
  exact ⟨hcfg.trans hb.cfg, hphase.trans hb.phase, hidx ▸ hb.initIdx, hvol.trans hb.vol, hq.trans hb.q⟩

section
variable {c : Config} {k : Nat} {s : State} (hw : c.wellFormed = true) (hk : k < 3) (hb : Booted c k s)
include hw hk hb

/-- R123: the Dispatcher's step that opens a round sends the next of the three frames. -/
theorem booted_sends (hs : s.st = .idle) (ha : nextAction s = .dispatcher) :
    ∃ f, (initFrames c)[k]? = some f ∧
      step s = .next { s with frameReg := f, st := .send, sched := s.sched.tail, obs := [.send f] } := by
  obtain ⟨rfl, hphase, hmin, hvol, -⟩ := hb
  have hidx : s.initIdx.toNat = k := by omega
  obtain ⟨f, hf, hstep⟩ := initializationDispatch s hw ha (by rw [hphase, if_neg (by omega)]) hs (by omega)
  rw [hidx, hvol] at hf
  exact ⟨f, hf, hstep⟩

/-- R132: the end of the pacing delay closes the round: INIT_IDX moves on, or PHASE after the last one. -/
theorem booted_paceEnds (hs : s.st = .pace) (hn : s.paceCnt = 0) (ha : nextAction s = .dispatcher) :
    ∃ t, step s = .next t ∧ t.obs = [.endPace] ∧ t.st = .idle ∧ t.sched = s.sched.tail ∧ Booted c (k + 1) t := by
  obtain ⟨rfl, hphase, hmin, hvol, hq⟩ := hb
  have hidx : s.initIdx.toNat = k := by omega
  have hinit : s.phase = .init := by rw [hphase, if_neg (by omega)]
  obtain ⟨hnext, hlast, -⟩ := pacingDelayEnds s hw (by simp [hinit]) (by omega) ha hs
  by_cases hk2 : k = 2
  · exact ⟨_, hlast hn hinit (by bv_omega), rfl, rfl, rfl, rfl, by simp [hk2], by simp [hidx, hk2], hvol, hq⟩
  · have hadd : (s.initIdx + 1).toNat = min (k + 1) 2 := by bv_omega
    exact ⟨_, hnext hn hinit (by omega), rfl, rfl, rfl, rfl, by simp [hinit, hk2], hadd, hvol, hq⟩

/-- From one idle state of the boot to the next (R174). -/
theorem runShows_bootRound {rest : List Action} (hs : s.st = .idle) (hsched : s.sched = cleanRound c ++ rest) :
    ∃ t es, runShows (c.paceTicks + 4) s = some (t, es) ∧ sentFrames es = (initFrames c)[k]?.toList ∧
      t.st = .idle ∧ t.sched = rest ∧ Booted c (k + 1) t := by
  have hcfg := hb.cfg
  have hinit : s.phase = .init := by rw [hb.phase, if_neg (by omega)]
  obtain ⟨f, hf, hsend⟩ := booted_sends hw hk hb hs (nextAction_cons hsched)
  obtain ⟨t, es, hdelay, hquiet, hsame, hrest⟩ := runShows_toPaceOver (rest := rest)
    (s := { s with frameReg := f, st := .send, sched := s.sched.tail, obs := [.send f] })
    (hcfg ▸ hw) (by simp [hinit]) rfl (by rw [hsched, hcfg]; rfl)
  have hwaiting : Booted c k t := booted_of_sameBlock hsame { hb with }
  obtain ⟨-, -, -, hpace, hzero, -⟩ := hsame
  obtain ⟨u, hend, hobs, hidle, hlast, hbooted⟩ := booted_paceEnds hw hk hwaiting hpace hzero (nextAction_cons hrest)
  have hrun := runShows_step hsend (runShows_append hdelay (runShows_step (n := 0) hend rfl))
  rw [hcfg] at hrun
  refine ⟨u, _, hrun, ?_, hidle, by simp [hlast, hrest], hbooted⟩
  rw [sentFrames_append, sentFrames_append, hquiet, hobs, hf]
  rfl

end

/-- Settles O57: three rounds, one after another, each sending the next frame. -/
theorem cleanBootReachesRun : Obligations.CleanBootReachesRun := by
  intro c rest hw
  obtain ⟨s₁, es₁, hrun₁, hsent₁, hidle₁, hrest₁, hb₁⟩ :=
    runShows_bootRound hw (by omega) (booted_reset c (cleanRound c ++ cleanRound c ++ cleanRound c ++ rest)) rfl
      (rest := cleanRound c ++ (cleanRound c ++ rest)) (by simp)
  obtain ⟨s₂, es₂, hrun₂, hsent₂, hidle₂, hrest₂, hb₂⟩ := runShows_bootRound hw (by omega) hb₁ hidle₁ hrest₁
  obtain ⟨s₃, es₃, hrun₃, hsent₃, hidle₃, hrest₃, hb₃⟩ := runShows_bootRound hw (by omega) hb₂ hidle₂ hrest₂
  have hsteps : 3 * (c.paceTicks + 4) = c.paceTicks + 4 + (c.paceTicks + 4) + (c.paceTicks + 4) := by omega
  have hsent : sentFrames (es₁ ++ es₂ ++ es₃) = initFrames c := by
    rw [sentFrames_append, sentFrames_append, hsent₁, hsent₂, hsent₃]
    rfl
  exact ⟨s₃, _, hsteps ▸ runShows_append (runShows_append hrun₁ hrun₂) hrun₃, hsent, hb₃.phase, hidle₃,
    BitVec.eq_of_toNat_eq hb₃.initIdx, hb₃.vol, hb₃.q, hrest₃⟩

end Sys2Proof.Proofs.ResetAndHazards
end
